-- ==== Sys2Proof/Word.lean ====
section
/-!
DEFINITION. The word types of the RDS group bitfield parser (spec 00_scope R10, R11).
-/

namespace Sys2Proof

/-- An 8-bit quantity: a character byte, an AF code, the ECC. -/
abbrev Byte := BitVec 8

/-- A 16-bit block of a group (R90). -/
abbrev Block := BitVec 16

/-- A 64-bit group `G = A ‖ B ‖ C ‖ D`, block A most significant (R11). -/
abbrev Group := BitVec 64

/-- An error level or error count, 0 (best) to 3 (R17, R38). -/
abbrev Level := BitVec 2

end Sys2Proof
end

