-- ==== Sys2Proof/Config.lean ====
section
/-!
DEFINITION. The implementation parameters of spec 00_scope R6. The two OPEN parameters are constants with no
body, so that no proof can see a value of theirs. The others hold the value the spec takes.
-/

namespace Sys2Proof

/-- `CountryId`, whatever `COUNTRY_LOOKUP` returns: stored and compared for equality only (R28, decision D16).
The number is a name and nothing is computed from it (log 8, DESIGN CHOICE, safe). -/
structure CountryId where
  id : Nat
  deriving DecidableEq, Repr

namespace Config

/-- The OPEN table behind `CHARMAP` (R244, decision D9): byte to code point, uninterpreted. The one constraint
the spec puts on `CHARMAP` is in `Sys2Proof.Machine.charmap` (log 7). -/
opaque charmapTable : Byte → Nat

/-- The OPEN parameter `COUNTRY_LOOKUP` (R211, decision D16): a total function of the PI's top nibble and the
ECC, to a `CountryId` or unknown; uninterpreted (log 8). -/
opaque countryLookup : BitVec 4 → Byte → Option CountryId

/-- `L_PS` and `L_PTYN` (R6). -/
def nameLen : Nat := 8

/-- `L_RT` (R6). -/
def rtLen : Nat := 64

/-- `EFFLEN_2B` (R6). -/
def efflen2B : Nat := 32

/-- `ERR_MAX` (R6). -/
def errMax : Level := 3#2

/-- `FILLER`, decision D8 (R6, R39; log 10). -/
def filler : Byte := 0x20#8

/-- `CONF_MAX`, decision D10 (R6). -/
def confMax : Nat := 64

/-- `RESET_THR`, decision D7 (R6, R401; log 9). -/
def resetThr : Level := 0#2

/-- `RESET_PROG`, decision D7 (R6, R401; log 9). -/
def resetProg : Bool := false

/-- `RESET_LISTEN`, decisions D7 and D23 (R6, R401; log 9). -/
def resetListen : Bool := false

/-- `AF_BASE_KHZ`, supplied by the spec from general knowledge (R6, R272; log 12). -/
def afBaseKhz : Nat := 87500

/-- `AF_STEP_KHZ` (R6, R272; log 12). -/
def afStepKhz : Nat := 100

/-- `AF_CODE_MAX` (R6, R271; log 12). -/
def afCodeMax : Nat := 204

end Config

end Sys2Proof
end

