-- ==== Sys2Proof/Syntax.lean ====
section
/-!
DEFINITION. The instructions: one constructor for each row of spec/opcode_table.json, the 32 group codes
(30_encoding R92 to R100) and the 19 commands (R108), and the frames in which the host presents them.

A row's constructor keeps every field of the table, those that no rule reads too, so that no bit of a group is
dropped. A field of one bit that the spec calls a flag is a `Bool`, `true` for 1.
-/

namespace Sys2Proof

/-- The four block error levels `be[A]` to `be[D]` that accompany a group (R11, decision D3). -/
structure Levels where
  a : Level
  b : Level
  c : Level
  d : Level
  deriving DecidableEq, Repr

/-- The levels the text form means: all four 0 (R105). -/
def Levels.zero : Levels := ⟨0#2, 0#2, 0#2, 0#2⟩

/-- The fields common to every group but the opcode (R91): PI, TP, PTY. -/
structure Head where
  pi  : Block
  tp  : Bool
  pty : BitVec 5
  deriving DecidableEq, Repr

/-- Format GROUP_COMMON (R100): `spec = B[4:0]`, blocks C and D, all ignored. -/
structure Rest where
  spec : BitVec 5
  c    : Block
  d    : Block
  deriving DecidableEq, Repr

/-- Format of group 0A (R93). `di` is ignored. -/
structure Group0A where
  ta   : Bool
  ms   : Bool
  di   : Bool
  addr : BitVec 2
  af1  : Byte
  af2  : Byte
  c0   : Byte
  c1   : Byte
  deriving DecidableEq, Repr

/-- Format of group 0B (R94). `di` and block C are ignored. -/
structure Group0B where
  ta   : Bool
  ms   : Bool
  di   : Bool
  addr : BitVec 2
  c    : Block
  c0   : Byte
  c1   : Byte
  deriving DecidableEq, Repr

/-- Format of group 1A (R95). All but `variant` and `ecc` is ignored. -/
structure Group1A where
  spec    : BitVec 5
  la      : Bool
  variant : BitVec 3
  mid     : BitVec 4
  ecc     : Byte
  d       : Block
  deriving DecidableEq, Repr

/-- Format of group 2A (R96). `f` is the toggle flag. -/
structure Group2A where
  f    : Bool
  addr : BitVec 4
  c0   : Byte
  c1   : Byte
  c2   : Byte
  c3   : Byte
  deriving DecidableEq, Repr

/-- Format of group 2B (R97). Block C is ignored. -/
structure Group2B where
  f    : Bool
  addr : BitVec 4
  c    : Block
  c0   : Byte
  c1   : Byte
  deriving DecidableEq, Repr

/-- Format of group 4A (R98). `spare = B[4:2]` is ignored. -/
structure Group4A where
  spare  : BitVec 3
  mjd    : BitVec 17
  hour   : BitVec 5
  minute : BitVec 6
  osign  : Bool
  omag   : BitVec 5
  deriving DecidableEq, Repr

/-- Format of group 10A (R99). `ab` and `spare = B[3:1]` are ignored. -/
structure Group10A where
  ab    : Bool
  spare : BitVec 3
  addr  : BitVec 1
  c0    : Byte
  c1    : Byte
  c2    : Byte
  c3    : Byte
  deriving DecidableEq, Repr

/-- The instructions. A group carries its block error levels, its common fields and its own format (log 3).
The operands of a command are the numbers of R109; a number outside the command's set is still an operand, which
the command itself rejects (R362). The operand of DECODE_HEX is the list of its characters' codes (R143). -/
inductive Instr where
  | g0A (lv : Levels) (h : Head) (f : Group0A)
  | g0B (lv : Levels) (h : Head) (f : Group0B)
  | g1A (lv : Levels) (h : Head) (f : Group1A)
  | g1B (lv : Levels) (h : Head) (r : Rest)
  | g2A (lv : Levels) (h : Head) (f : Group2A)
  | g2B (lv : Levels) (h : Head) (f : Group2B)
  | g3A (lv : Levels) (h : Head) (r : Rest)
  | g3B (lv : Levels) (h : Head) (r : Rest)
  | g4A (lv : Levels) (h : Head) (f : Group4A)
  | g4B (lv : Levels) (h : Head) (r : Rest)
  | g5A (lv : Levels) (h : Head) (r : Rest)
  | g5B (lv : Levels) (h : Head) (r : Rest)
  | g6A (lv : Levels) (h : Head) (r : Rest)
  | g6B (lv : Levels) (h : Head) (r : Rest)
  | g7A (lv : Levels) (h : Head) (r : Rest)
  | g7B (lv : Levels) (h : Head) (r : Rest)
  | g8A (lv : Levels) (h : Head) (r : Rest)
  | g8B (lv : Levels) (h : Head) (r : Rest)
  | g9A (lv : Levels) (h : Head) (r : Rest)
  | g9B (lv : Levels) (h : Head) (r : Rest)
  | g10A (lv : Levels) (h : Head) (f : Group10A)
  | g10B (lv : Levels) (h : Head) (r : Rest)
  | g11A (lv : Levels) (h : Head) (r : Rest)
  | g11B (lv : Levels) (h : Head) (r : Rest)
  | g12A (lv : Levels) (h : Head) (r : Rest)
  | g12B (lv : Levels) (h : Head) (r : Rest)
  | g13A (lv : Levels) (h : Head) (r : Rest)
  | g13B (lv : Levels) (h : Head) (r : Rest)
  | g14A (lv : Levels) (h : Head) (r : Rest)
  | g14B (lv : Levels) (h : Head) (r : Rest)
  | g15A (lv : Levels) (h : Head) (r : Rest)
  | g15B (lv : Levels) (h : Head) (r : Rest)
  | create
  | destroy
  | clear
  | decodeHex (chars : List Nat)
  | decodeRaw (g : Group) (lv : Levels)
  | setCorrection (kind axis level : Nat)
  | setProgressive (kind enabled : Nat)
  | setListener (k enabled : Nat)
  | getPi
  | getPty
  | getTp
  | getTa
  | getMs
  | getEcc
  | getCountry
  | getPs
  | getRt (flag : Nat)
  | getPtyn
  | getCt
  deriving DecidableEq, Repr

/-- What the host puts on the command port (log 3, log 4): a group in its raw form, the 64-bit value and its four
levels (R105), or a command, its 5-bit code (R108) and its operand numbers in the order R108 lists them. -/
inductive Frame where
  | group (g : Group) (lv : Levels)
  | command (code : BitVec 5) (operands : List Nat)
  deriving DecidableEq, Repr

/-- Why a frame is no instruction. Every one is refused (log 4). -/
inductive DecodeError where
  /-- A code 19 to 31 (93 U5: "They are not commands"). -/
  | notACommand (code : BitVec 5)
  /-- The number of operands is not the one R108 lists for the code. -/
  | operandCount (code : BitVec 5)
  /-- DECODE_RAW with a number that is no 64-bit group or no 2-bit level (R142). -/
  | operandRange (code : BitVec 5)
  deriving DecidableEq, Repr

end Sys2Proof
end

