-- ==== Sys2Proof/Machine/State.lean ====
section
/-!
DEFINITION. The state of one parser instance (spec 10_state R20 to R46), the outputs of a command (00_scope R15,
60_exceptions R370, R371), the reasons a step can stop, and the reset state (R401).
-/

namespace Sys2Proof.Machine

/-! ### Names -/

/-- The text kinds of the configuration (R34, R109). -/
inductive TextKind where
  | ps
  | rt
  deriving DecidableEq, Repr

/-- The two correction axes, decision D5 (R34). -/
inductive Axis where
  | info
  | data
  deriving DecidableEq, Repr

/-- `LIFE` (R37). -/
inductive Life where
  | live
  | destroyed
  deriving DecidableEq, Repr

/-- The twelve event kinds, in the order of R36 and R370. -/
inductive EventKind where
  | pi
  | pty
  | tp
  | ta
  | ms
  | ecc
  | country
  | af
  | ps
  | rt
  | ptyn
  | ct
  deriving DecidableEq, Repr

/-- The four text buffers (R20, R60). The index of an RT buffer is the toggle flag, `false` for 0 (R41). -/
inductive BufId where
  | ps
  | rt (f : Bool)
  | ptyn
  deriving DecidableEq, Repr

/-! ### Text buffers -/

/-- The characters of a buffer: `(position, byte)` pairs in rising order, a position that is not listed holding
`Config.filler` (R39, R43; log 11). -/
abbrev Memory := List Host.Cell

/-- The error counts of a buffer, a position that is not listed holding `Config.errMax` (R39, R43; log 11). -/
abbrev ErrMemory := List (Nat × Level)

/-- A text buffer (R38): the working copy, the confirmation counter, the published copy, the effective length. -/
structure TextBuffer where
  chr    : Memory
  err    : ErrMemory
  conf   : Nat
  pubChr : Memory
  pubErr : ErrMemory
  efflen : Nat
  deriving DecidableEq, Repr

/-- The blank state of a buffer of length `len` (R39). -/
def TextBuffer.blank (len : Nat) : TextBuffer :=
  { chr := [], err := [], conf := 0, pubChr := [], pubErr := [], efflen := len }

/-! ### Registers -/

/-- The clock-time snapshot `CT` (R30): UTC date and time, the local offset in half hours. -/
structure ClockTime where
  year     : Nat
  month    : Nat
  day      : Nat
  hour     : Nat
  minute   : Nat
  offsetHh : Int
  deriving DecidableEq, Repr

/-- `THR[kind][axis]` (R34). -/
structure Thresholds where
  psInfo : Level
  psData : Level
  rtInfo : Level
  rtData : Level
  deriving DecidableEq, Repr

/-- `PROG[kind]` (R35). -/
structure Progressive where
  ps : Bool
  rt : Bool
  deriving DecidableEq, Repr

/-- `LISTEN[k]`, one bit for each event kind (R36). -/
structure Listeners where
  pi      : Bool
  pty     : Bool
  tp      : Bool
  ta      : Bool
  ms      : Bool
  ecc     : Bool
  country : Bool
  af      : Bool
  ps      : Bool
  rt      : Bool
  ptyn    : Bool
  ct      : Bool
  deriving DecidableEq, Repr

/-! ### Outputs -/

/-- An event with its payload (R371, decision D23). A flag is `true` for 1. -/
inductive Event where
  | pi (v : Block)
  | pty (v : BitVec 5)
  | tp (v : Bool)
  | ta (v : Bool)
  | ms (v : Bool)
  | ecc (v : Byte)
  | country (v : Option CountryId)
  | af (khz : Nat)
  | ps
  | rt (f : Bool)
  | ptyn
  | ct (v : ClockTime)
  deriving DecidableEq, Repr

/-- The view a text accessor returns (R244): code points, error counts, length. -/
structure TextView where
  content : List Nat
  errors  : List Level
  length  : Nat
  deriving DecidableEq, Repr

/-- What GET_CT returns when `CT` is not absent (R340): the offset in minutes. -/
structure ClockReading where
  year          : Nat
  month         : Nat
  day           : Nat
  hour          : Nat
  minute        : Nat
  offsetMinutes : Int
  deriving DecidableEq, Repr

/-- The `value` of a command's result (R15), `none` of an option being the sentinel "unknown" or "absent"
(R364). -/
inductive Value where
  /-- The command has no value. -/
  | nothing
  | pi (v : Option Block)
  | pty (v : Option (BitVec 5))
  | tp (v : Option Bool)
  | ta (v : Option Bool)
  | ms (v : Option Bool)
  | ecc (v : Option Byte)
  | country (v : Option CountryId)
  | text (v : TextView)
  | clock (v : Option ClockReading)
  deriving DecidableEq, Repr

/-- The record every command returns (R15). -/
structure Result where
  ok     : Bool
  value  : Value
  events : List Event
  deriving DecidableEq, Repr

/-! ### The state -/

/-- The state of an instance (R20). `none` is the token `unknown` (R12) or `absent`. `inbox` and `out` are the
model's own: the commands the host has still to issue (log 1) and the result of the last one (log 2). -/
structure State where
  pi       : Option Block
  pty      : Option (BitVec 5)
  tp       : Option Bool
  ta       : Option Bool
  ms       : Option Bool
  ecc      : Option Byte
  country  : Option CountryId
  afset    : BitVec 204
  ct       : Option ClockTime
  rtActive : Option Bool
  ps       : TextBuffer
  rt0      : TextBuffer
  rt1      : TextBuffer
  ptyn     : TextBuffer
  thr      : Thresholds
  prog     : Progressive
  listen   : Listeners
  life     : Life
  inbox    : List Frame
  out      : Result
  deriving DecidableEq, Repr

/-- The machine never faults: "No condition in this core is fatal; the instance always remains usable after any
error" (R360). -/
inductive Fault where
  deriving DecidableEq, Repr

/-- Why a step is refused. -/
inductive Refusal where
  /-- An instruction that has no meaning yet; raised by an arm of `exec` alone, and by none now. Safe. -/
  | notModelled (mnemonic : String)
  /-- A command other than CREATE on a destroyed instance, raised by every meaning but CREATE's (R37, R422, 93 U3:
  "refuse"; log 5). Safe: the spec gives no result to claim anything about. -/
  | destroyed
  /-- A frame that is no instruction, raised by `step` (93 U5: "refuse"; log 4). Safe: it runs nothing. -/
  | badFrame (e : DecodeError)
  deriving DecidableEq, Repr

/-- The result CREATE returns (R321), which is also that of every command with no value and no event. -/
def Result.okay : Result := { ok := true, value := .nothing, events := [] }

/-- The machine right after reset, that is after CREATE (R321, R400, R401; reset values of the configuration:
decision D7, log 9). No command waits (log 1). -/
def State.reset : State where
  pi := none
  pty := none
  tp := none
  ta := none
  ms := none
  ecc := none
  country := none
  afset := 0#204
  ct := none
  rtActive := none
  ps := TextBuffer.blank Config.nameLen
  rt0 := TextBuffer.blank Config.rtLen
  rt1 := TextBuffer.blank Config.rtLen
  ptyn := TextBuffer.blank Config.nameLen
  thr := { psInfo := Config.resetThr, psData := Config.resetThr, rtInfo := Config.resetThr,
           rtData := Config.resetThr }
  prog := { ps := Config.resetProg, rt := Config.resetProg }
  listen :=
    { pi := Config.resetListen, pty := Config.resetListen, tp := Config.resetListen, ta := Config.resetListen,
      ms := Config.resetListen, ecc := Config.resetListen, country := Config.resetListen,
      af := Config.resetListen, ps := Config.resetListen, rt := Config.resetListen,
      ptyn := Config.resetListen, ct := Config.resetListen }
  life := .live
  inbox := []
  out := Result.okay

end Sys2Proof.Machine
end

