-- ==== Sys2Proof/Machine/Operands.lean ====
section
/-!
DEFINITION. How operands are assembled: the operand codes of the commands (30_encoding R109), the digits of the
text form (40_group_decoder R143), the AF frequency (43_af_decoder R272), the clock-time fields (44_clock_time R293,
R296), the character table (42_text_assembler R244).
-/

namespace Sys2Proof.Machine

/-! ### Operand codes (R109) -/

/-- `kind`: 0 is PS, 1 is RT, every other value is invalid. -/
def kindOfCode : Nat → Option TextKind
  | 0 => some .ps
  | 1 => some .rt
  | _ => none

/-- `axis`: 0 is INFO, 1 is DATA, every other value is invalid. -/
def axisOfCode : Nat → Option Axis
  | 0 => some .info
  | 1 => some .data
  | _ => none

/-- `level`: 0..3 valid, every other value invalid. -/
def levelOfCode (n : Nat) : Option Level := if n < 4 then some (BitVec.ofNat 2 n) else none

/-- `flag` and `enabled`: 0 is false, 1 is true, every other value is invalid. -/
def bitOfCode : Nat → Option Bool
  | 0 => some false
  | 1 => some true
  | _ => none

/-- `k`: 0..11 in the order of R36, every other value invalid. -/
def eventKindOfCode : Nat → Option EventKind
  | 0 => some .pi
  | 1 => some .pty
  | 2 => some .tp
  | 3 => some .ta
  | 4 => some .ms
  | 5 => some .ecc
  | 6 => some .country
  | 7 => some .af
  | 8 => some .ps
  | 9 => some .rt
  | 10 => some .ptyn
  | 11 => some .ct
  | _ => none

/-! ### The text form of a group (R140, R143) -/

/-- `hexval` of a character's code (R143, decision D20: both letter cases). -/
def hexval (ch : Nat) : Option Nat :=
  if 0x30 ≤ ch ∧ ch ≤ 0x39 then some (ch - 0x30)
  else if 0x41 ≤ ch ∧ ch ≤ 0x46 then some (ch - 0x41 + 10)
  else if 0x61 ≤ ch ∧ ch ≤ 0x66 then some (ch - 0x61 + 10)
  else none

/-- The number a string of hexadecimal digits continues from `acc`, most significant digit first. -/
def hexNumber : List Nat → Nat → Option Nat
  | [], acc => some acc
  | ch :: rest, acc =>
    match hexval ch with
    | none => none
    | some v => hexNumber rest (16 * acc + v)

/-- The group of a string: none unless it is exactly 16 hexadecimal digits (R140, R141). -/
def parseHex (chars : List Nat) : Option Group :=
  if chars.length = 16 then (hexNumber chars 0).map (BitVec.ofNat 64) else none

/-! ### AF codes -/

/-- A code that stands for a frequency: 1 to 204 (R271, decision D17). -/
def isFrequencyCode (n : Byte) : Bool := decide (1 ≤ n.toNat) && decide (n.toNat ≤ Config.afCodeMax)

/-- `freq_khz` (R272). -/
def freqKhz (n : Byte) : Nat := Config.afBaseKhz + Config.afStepKhz * n.toNat

/-! ### Clock time -/

/-- `civil_from_mjd` (R293): the proleptic Gregorian date `mjd` days after 1858-11-17. -/
def civilFromMjd (mjd : Nat) : Nat × Nat × Nat :=
  let z := mjd + 678881
  let era := z / 146097
  let doe := z - era * 146097
  let yoe := (doe - doe / 1460 + doe / 36524 - doe / 146096) / 365
  let doy := doe - (365 * yoe + yoe / 4 - yoe / 100)
  let mp := (5 * doy + 2) / 153
  let day := doy - (153 * mp + 2) / 5 + 1
  let month := if mp < 10 then mp + 3 else mp - 9
  let year := yoe + era * 400 + (if month ≤ 2 then 1 else 0)
  (year, month, day)

/-- `offset_hh`, sign and magnitude (R296): `osign` is `true` for minus. -/
def offsetHh (osign : Bool) (omag : BitVec 5) : Int :=
  if osign then - (omag.toNat : Int) else (omag.toNat : Int)

/-- The validity test that can fail (R292): hour 0 to 23 and minute 0 to 59. -/
def clockFieldsValid (f : Group4A) : Bool := decide (f.hour.toNat ≤ 23) && decide (f.minute.toNat ≤ 59)

/-- The snapshot of a group 4A (R290, R297). -/
def snapshot (f : Group4A) : ClockTime :=
  let date := civilFromMjd f.mjd.toNat
  { year := date.1, month := date.2.1, day := date.2.2, hour := f.hour.toNat, minute := f.minute.toNat,
    offsetHh := offsetHh f.osign f.omag }

/-- What GET_CT reports of a snapshot (R340): the offset in minutes. -/
def readingOf (c : ClockTime) : ClockReading :=
  { year := c.year, month := c.month, day := c.day, hour := c.hour, minute := c.minute,
    offsetMinutes := 30 * c.offsetHh }

/-! ### Characters -/

/-- `CHARMAP` (R244): open but for `CHARMAP(0x20) = U+0020` (log 7). -/
def charmap (b : Byte) : Nat := if b = 0x20#8 then 0x20 else Config.charmapTable b

end Sys2Proof.Machine
end

