-- ==== Sys2Proof/Machine/Ops.lean ====
section
/-!
DEFINITION. The named operations over memory, control registers and the command's result: the memory primitives
(00_scope R13), the selection of buffers and of configuration (10_state R34 to R36, R44), `emit` and `reject`
(R14), and the start and the end of a command (R15).
-/

namespace Sys2Proof.Machine

/-! ### Sparse memory in one canonical form (log 11)

A list of `(position, value)` pairs, positions strictly rising, no value equal to the blank one. -/

/-- The value at position `p`; a position that is not listed holds the blank value. -/
def sparseRead {α : Type} (blank : α) : List (Nat × α) → Nat → α
  | [], _ => blank
  | (q, w) :: m, p => if p = q then w else sparseRead blank m p

/-- The memory with `v` at position `p`; writing the blank value removes the entry. -/
def sparseWrite {α : Type} [DecidableEq α] (blank : α) : List (Nat × α) → Nat → α → List (Nat × α)
  | [], p, v => if v = blank then [] else [(p, v)]
  | (q, w) :: m, p, v =>
    if p < q then (if v = blank then (q, w) :: m else (p, v) :: (q, w) :: m)
    else if p = q then (if v = blank then m else (p, v) :: m)
    else (q, w) :: sparseWrite blank m p v

/-- The canonical form, with every position in `lo .. limit - 1`. -/
def sparseWf {α : Type} [DecidableEq α] (blank : α) (limit : Nat) : Nat → List (Nat × α) → Bool
  | _, [] => true
  | lo, (q, w) :: m => decide (lo ≤ q) && decide (q < limit) && decide (w ≠ blank) && sparseWf blank limit (q + 1) m

/-- The canonical form of the characters of a buffer of length `limit` (R39, R43). -/
def Memory.wf (limit : Nat) (m : Memory) : Bool := sparseWf Config.filler limit 0 m

/-- The canonical form of the error counts of a buffer of length `limit` (R39, R43). -/
def ErrMemory.wf (limit : Nat) (m : ErrMemory) : Bool := sparseWf Config.errMax limit 0 m

/-- `buf.chr[p]` (R12, R13). -/
def TextBuffer.chrAt (b : TextBuffer) (p : Nat) : Byte := sparseRead Config.filler b.chr p

/-- `buf.err[p]`. -/
def TextBuffer.errAt (b : TextBuffer) (p : Nat) : Level := sparseRead Config.errMax b.err p

/-- `buf.pub_chr[p]`. -/
def TextBuffer.pubChrAt (b : TextBuffer) (p : Nat) : Byte := sparseRead Config.filler b.pubChr p

/-- `buf.pub_err[p]`. -/
def TextBuffer.pubErrAt (b : TextBuffer) (p : Nat) : Level := sparseRead Config.errMax b.pubErr p

/-- `MemWrite(buf, p, c, e)`: the working copy, character and count together (R13, R66). -/
def TextBuffer.memWrite (p : Nat) (c : Byte) (e : Level) (b : TextBuffer) : TextBuffer :=
  { b with chr := sparseWrite Config.filler b.chr p c, err := sparseWrite Config.errMax b.err p e }

/-- `publish(buf)`: the whole working copy into the published copy (R240). -/
def TextBuffer.publish (b : TextBuffer) : TextBuffer := { b with pubChr := b.chr, pubErr := b.err }

/-- The two published copies agree in every position below `len`, character and count (R232). -/
def samePublished (len : Nat) (b b' : TextBuffer) : Bool :=
  (List.range len).all fun p => b.pubChrAt p == b'.pubChrAt p && b.pubErrAt p == b'.pubErrAt p

/-! ### Selecting a buffer and its configuration -/

/-- The length `L` of a buffer (R40 to R42). -/
def BufId.len : BufId → Nat
  | .ps => Config.nameLen
  | .rt _ => Config.rtLen
  | .ptyn => Config.nameLen

/-- `kindof(buf)` (R44, decision D6). -/
def BufId.kind : BufId → TextKind
  | .ps => .ps
  | .rt _ => .rt
  | .ptyn => .ps

/-- The text event of a buffer (R232, R371). -/
def BufId.event : BufId → Event
  | .ps => .ps
  | .rt f => .rt f
  | .ptyn => .ptyn

/-- A buffer of the state. -/
def State.buf (s : State) : BufId → TextBuffer
  | .ps => s.ps
  | .rt false => s.rt0
  | .rt true => s.rt1
  | .ptyn => s.ptyn

/-- The state with a buffer replaced. -/
def State.setBuf (id : BufId) (b : TextBuffer) (s : State) : State :=
  match id with
  | .ps => { s with ps := b }
  | .rt false => { s with rt0 := b }
  | .rt true => { s with rt1 := b }
  | .ptyn => { s with ptyn := b }

/-- `THR[kind][axis]` (R34). -/
def Thresholds.get (t : Thresholds) : TextKind → Axis → Level
  | .ps, .info => t.psInfo
  | .ps, .data => t.psData
  | .rt, .info => t.rtInfo
  | .rt, .data => t.rtData

/-- `THR[kind][axis] <- level` (R327). -/
def Thresholds.set (t : Thresholds) (kind : TextKind) (axis : Axis) (level : Level) : Thresholds :=
  match kind, axis with
  | .ps, .info => { t with psInfo := level }
  | .ps, .data => { t with psData := level }
  | .rt, .info => { t with rtInfo := level }
  | .rt, .data => { t with rtData := level }

/-- `PROG[kind]` (R35). -/
def Progressive.get (p : Progressive) : TextKind → Bool
  | .ps => p.ps
  | .rt => p.rt

/-- `PROG[kind] <- enabled` (R328). -/
def Progressive.set (p : Progressive) (kind : TextKind) (enabled : Bool) : Progressive :=
  match kind with
  | .ps => { p with ps := enabled }
  | .rt => { p with rt := enabled }

/-- `LISTEN[k]` (R36). -/
def Listeners.get (l : Listeners) : EventKind → Bool
  | .pi => l.pi
  | .pty => l.pty
  | .tp => l.tp
  | .ta => l.ta
  | .ms => l.ms
  | .ecc => l.ecc
  | .country => l.country
  | .af => l.af
  | .ps => l.ps
  | .rt => l.rt
  | .ptyn => l.ptyn
  | .ct => l.ct

/-- `LISTEN[k] <- enabled` (R329). -/
def Listeners.set (l : Listeners) (k : EventKind) (enabled : Bool) : Listeners :=
  match k with
  | .pi => { l with pi := enabled }
  | .pty => { l with pty := enabled }
  | .tp => { l with tp := enabled }
  | .ta => { l with ta := enabled }
  | .ms => { l with ms := enabled }
  | .ecc => { l with ecc := enabled }
  | .country => { l with country := enabled }
  | .af => { l with af := enabled }
  | .ps => { l with ps := enabled }
  | .rt => { l with rt := enabled }
  | .ptyn => { l with ptyn := enabled }
  | .ct => { l with ct := enabled }

/-! ### Events -/

/-- The kind of an event (R370). -/
def Event.kind : Event → EventKind
  | .pi _ => .pi
  | .pty _ => .pty
  | .tp _ => .tp
  | .ta _ => .ta
  | .ms _ => .ms
  | .ecc _ => .ecc
  | .country _ => .country
  | .af _ => .af
  | .ps => .ps
  | .rt _ => .rt
  | .ptyn => .ptyn
  | .ct _ => .ct

/-- `emit k(payload)` when `cond` holds: append the event to the command's list if `LISTEN[k]` is true (R14, R372).
Nothing but the list changes. -/
def State.emitWhen (cond : Bool) (e : Event) (s : State) : State :=
  { s with out := { s.out with events := s.out.events ++ (if cond && s.listen.get e.kind then [e] else []) } }

/-- `emit k(payload)` (R14). -/
def State.emit (e : Event) (s : State) : State := s.emitWhen true e

/-! ### Commands -/

/-- The error classes a command can be rejected with (R360): (a) malformed input, (b) invalid argument. -/
inductive RejectClass where
  | malformedInput
  | invalidArgument
  deriving DecidableEq, Repr

/-- A command that returns a result (R15). -/
def State.finish (r : Result) (s : State) : State := { s with out := r }

/-- `reject(class)` (R14): no state change, no event, `ok = false`. It is all there is to taking an exception:
nothing is saved, no mode changes, control goes nowhere, and there is no return (R367, R368). The class is not
recorded (R360). -/
def State.reject (_class : RejectClass) (s : State) : State :=
  s.finish { ok := false, value := .nothing, events := [] }

/-- An accessor's answer (R15, R342): nothing but the result changes. -/
def State.answer (v : Value) (s : State) : State := s.finish { ok := true, value := v, events := [] }

/-- A decode starts with an empty event list; its `ok` is true and it has no value (R142, R144). -/
def State.begin (s : State) : State := s.finish Result.okay

/-- Every command but CREATE needs `LIFE = LIVE`, tested first (R320, R366); on a destroyed instance the model
refuses it (R37, 93 U3; log 5). -/
def whenLive (s : State) (body : State → State) : Host.Outcome State Fault Refusal :=
  match s.life with
  | .live => .next (body s)
  | .destroyed => .refused .destroyed

end Sys2Proof.Machine
end

