-- ==== Sys2Proof/Machine/Accessors.lean ====
section
/-!
DEFINITION. The accessors (45_commands R331 to R342): they change nothing but the command's result.
-/

namespace Sys2Proof.Machine

/-- The view of a buffer (R244): its published copy, `CHARMAP` applied to the characters. -/
def State.view (s : State) (id : BufId) : TextView :=
  { content := (List.range id.len).map fun p => charmap ((s.buf id).pubChrAt p)
    errors := (List.range id.len).map fun p => (s.buf id).pubErrAt p
    length := id.len }

/-- GET_PI (R331). -/
def execGetPi (s : State) : Host.Outcome State Fault Refusal :=
  whenLive s fun s => s.answer (.pi s.pi)

/-- GET_PTY (R332). -/
def execGetPty (s : State) : Host.Outcome State Fault Refusal :=
  whenLive s fun s => s.answer (.pty s.pty)

/-- GET_TP (R333). -/
def execGetTp (s : State) : Host.Outcome State Fault Refusal :=
  whenLive s fun s => s.answer (.tp s.tp)

/-- GET_TA (R334). -/
def execGetTa (s : State) : Host.Outcome State Fault Refusal :=
  whenLive s fun s => s.answer (.ta s.ta)

/-- GET_MS (R335). -/
def execGetMs (s : State) : Host.Outcome State Fault Refusal :=
  whenLive s fun s => s.answer (.ms s.ms)

/-- GET_ECC (R336). -/
def execGetEcc (s : State) : Host.Outcome State Fault Refusal :=
  whenLive s fun s => s.answer (.ecc s.ecc)

/-- GET_COUNTRY (R337). `COUNTRY_LOOKUP` is not called. -/
def execGetCountry (s : State) : Host.Outcome State Fault Refusal :=
  whenLive s fun s => s.answer (.country s.country)

/-- GET_PS (R338). -/
def execGetPs (s : State) : Host.Outcome State Fault Refusal :=
  whenLive s fun s => s.answer (.text (s.view .ps))

/-- GET_RT (R339): the view of the buffer the flag names, active or not; a flag that is not 0 or 1 is rejected. -/
def execGetRt (flag : Nat) (s : State) : Host.Outcome State Fault Refusal :=
  whenLive s fun s =>
    match bitOfCode flag with
    | some f => s.answer (.text (s.view (.rt f)))
    | none => s.reject .invalidArgument

/-- GET_PTYN (R341). -/
def execGetPtyn (s : State) : Host.Outcome State Fault Refusal :=
  whenLive s fun s => s.answer (.text (s.view .ptyn))

/-- GET_CT (R340): absent, or the snapshot with its offset in minutes. -/
def execGetCt (s : State) : Host.Outcome State Fault Refusal :=
  whenLive s fun s => s.answer (.clock (s.ct.map readingOf))

end Sys2Proof.Machine
end

