-- ==== Sys2Proof/WellFormed.lean ====
section
/-!
DEFINITION. When a frame is well formed. Every term of `Instr` is an instruction: the widths of its fields are
carried by their types, and a command's operand outside its set is rejected by the command's own meaning (R362),
not by the decoder. What can be ill formed is a frame: a code that is no command (93 U5), a wrong number of
operands, and a DECODE_RAW operand outside its width (log 4).
-/

namespace Sys2Proof

/-- Codes 0 to 18 are commands (R108). -/
def assignedCode (code : BitVec 5) : Bool := decide (code.toNat < 19)

/-- The number of operands R108 lists for a code; DECODE_HEX (3) takes a string of any length (R140), 0 here. -/
def operandCount (code : BitVec 5) : Nat :=
  match code.toNat with
  | 4 => 5
  | 5 => 3
  | 6 => 2
  | 7 => 2
  | 16 => 1
  | _ => 0

/-- The number of operands is the one R108 lists. -/
def operandCountOk (code : BitVec 5) (ops : List Nat) : Bool :=
  code == 3#5 || ops.length == operandCount code

/-- DECODE_RAW takes a 64-bit group and four 2-bit levels (R142); the other commands' operands are any numbers. -/
def operandRangeOk (code : BitVec 5) (ops : List Nat) : Bool :=
  code != 4#5 || (decide (ops.headD 0 < 2 ^ 64) && ops.tail.all fun x => decide (x < 4))

/-- A frame is well formed: every group is (R103); a command's code is assigned, and its operands fit it. -/
def Frame.wf : Frame → Bool
  | .group _ _ => true
  | .command code ops => assignedCode code && operandCountOk code ops && operandRangeOk code ops

end Sys2Proof
end

