-- ==== Sys2Proof/Decode.lean ====
section
/-!
DEFINITION. The decoder of frames, total, rejecting by name, and the encoder. The bit positions are those of the
group rows of spec/opcode_table.json, which are R91 to R99 with every field as bits of `G`.
-/

namespace Sys2Proof

/-- The opcode `gt ‖ ver = B[15:11] = G[47:43]` (R92). -/
def opcode (g : Group) : BitVec 5 := g.extractLsb' 43 5

/-- The fields common to every group (R91). -/
def headOf (g : Group) : Head :=
  { pi := g.extractLsb' 48 16, tp := g.getLsbD 42, pty := g.extractLsb' 37 5 }

/-- Format GROUP_COMMON (R100). -/
def restOf (g : Group) : Rest :=
  { spec := g.extractLsb' 32 5, c := g.extractLsb' 16 16, d := g.extractLsb' 0 16 }

/-- Format of group 0A (R93). -/
def fields0A (g : Group) : Group0A :=
  { ta := g.getLsbD 36, ms := g.getLsbD 35, di := g.getLsbD 34, addr := g.extractLsb' 32 2,
    af1 := g.extractLsb' 24 8, af2 := g.extractLsb' 16 8, c0 := g.extractLsb' 8 8, c1 := g.extractLsb' 0 8 }

/-- Format of group 0B (R94). -/
def fields0B (g : Group) : Group0B :=
  { ta := g.getLsbD 36, ms := g.getLsbD 35, di := g.getLsbD 34, addr := g.extractLsb' 32 2,
    c := g.extractLsb' 16 16, c0 := g.extractLsb' 8 8, c1 := g.extractLsb' 0 8 }

/-- Format of group 1A (R95). -/
def fields1A (g : Group) : Group1A :=
  { spec := g.extractLsb' 32 5, la := g.getLsbD 31, variant := g.extractLsb' 28 3, mid := g.extractLsb' 24 4,
    ecc := g.extractLsb' 16 8, d := g.extractLsb' 0 16 }

/-- Format of group 2A (R96). -/
def fields2A (g : Group) : Group2A :=
  { f := g.getLsbD 36, addr := g.extractLsb' 32 4, c0 := g.extractLsb' 24 8, c1 := g.extractLsb' 16 8,
    c2 := g.extractLsb' 8 8, c3 := g.extractLsb' 0 8 }

/-- Format of group 2B (R97). -/
def fields2B (g : Group) : Group2B :=
  { f := g.getLsbD 36, addr := g.extractLsb' 32 4, c := g.extractLsb' 16 16, c0 := g.extractLsb' 8 8,
    c1 := g.extractLsb' 0 8 }

/-- Format of group 4A (R98, R291): the MJD is `B[1:0] ‖ C[15:1]`, the hour `C[0] ‖ D[15:12]`. -/
def fields4A (g : Group) : Group4A :=
  { spare := g.extractLsb' 34 3, mjd := g.extractLsb' 17 17, hour := g.extractLsb' 12 5,
    minute := g.extractLsb' 6 6, osign := g.getLsbD 5, omag := g.extractLsb' 0 5 }

/-- Format of group 10A (R99). -/
def fields10A (g : Group) : Group10A :=
  { ab := g.getLsbD 36, spare := g.extractLsb' 33 3, addr := g.extractLsb' 32 1, c0 := g.extractLsb' 24 8,
    c1 := g.extractLsb' 16 8, c2 := g.extractLsb' 8 8, c3 := g.extractLsb' 0 8 }

/-- The instruction a group word is, with its levels (R92, R102). Every word is one: no group is illegal (R103).
The opcode has five bits, so the last arm is 31, group 15B. -/
def decodeGroup (g : Group) (lv : Levels) : Instr :=
  match (opcode g).toNat with
  | 0 => .g0A lv (headOf g) (fields0A g)
  | 1 => .g0B lv (headOf g) (fields0B g)
  | 2 => .g1A lv (headOf g) (fields1A g)
  | 3 => .g1B lv (headOf g) (restOf g)
  | 4 => .g2A lv (headOf g) (fields2A g)
  | 5 => .g2B lv (headOf g) (fields2B g)
  | 6 => .g3A lv (headOf g) (restOf g)
  | 7 => .g3B lv (headOf g) (restOf g)
  | 8 => .g4A lv (headOf g) (fields4A g)
  | 9 => .g4B lv (headOf g) (restOf g)
  | 10 => .g5A lv (headOf g) (restOf g)
  | 11 => .g5B lv (headOf g) (restOf g)
  | 12 => .g6A lv (headOf g) (restOf g)
  | 13 => .g6B lv (headOf g) (restOf g)
  | 14 => .g7A lv (headOf g) (restOf g)
  | 15 => .g7B lv (headOf g) (restOf g)
  | 16 => .g8A lv (headOf g) (restOf g)
  | 17 => .g8B lv (headOf g) (restOf g)
  | 18 => .g9A lv (headOf g) (restOf g)
  | 19 => .g9B lv (headOf g) (restOf g)
  | 20 => .g10A lv (headOf g) (fields10A g)
  | 21 => .g10B lv (headOf g) (restOf g)
  | 22 => .g11A lv (headOf g) (restOf g)
  | 23 => .g11B lv (headOf g) (restOf g)
  | 24 => .g12A lv (headOf g) (restOf g)
  | 25 => .g12B lv (headOf g) (restOf g)
  | 26 => .g13A lv (headOf g) (restOf g)
  | 27 => .g13B lv (headOf g) (restOf g)
  | 28 => .g14A lv (headOf g) (restOf g)
  | 29 => .g14B lv (headOf g) (restOf g)
  | 30 => .g15A lv (headOf g) (restOf g)
  | _ => .g15B lv (headOf g) (restOf g)

/-- A command without operands. -/
def noOperand (code : BitVec 5) (ops : List Nat) (i : Instr) : Except DecodeError Instr :=
  match ops with
  | [] => .ok i
  | _ => .error (.operandCount code)

/-- A command with one operand. -/
def oneOperand (code : BitVec 5) (ops : List Nat) (i : Nat → Instr) : Except DecodeError Instr :=
  match ops with
  | [x] => .ok (i x)
  | _ => .error (.operandCount code)

/-- A command with two operands. -/
def twoOperands (code : BitVec 5) (ops : List Nat) (i : Nat → Nat → Instr) : Except DecodeError Instr :=
  match ops with
  | [x, y] => .ok (i x y)
  | _ => .error (.operandCount code)

/-- A command with three operands. -/
def threeOperands (code : BitVec 5) (ops : List Nat) (i : Nat → Nat → Nat → Instr) : Except DecodeError Instr :=
  match ops with
  | [x, y, z] => .ok (i x y z)
  | _ => .error (.operandCount code)

/-- DECODE_RAW: `G`, then `be[A]` to `be[D]`, each within its width (R108, R142). -/
def rawOperands (code : BitVec 5) (ops : List Nat) : Except DecodeError Instr :=
  match ops with
  | [g, a, b, c, d] =>
    if g < 2 ^ 64 ∧ a < 4 ∧ b < 4 ∧ c < 4 ∧ d < 4 then
      .ok (.decodeRaw (BitVec.ofNat 64 g) ⟨BitVec.ofNat 2 a, BitVec.ofNat 2 b, BitVec.ofNat 2 c, BitVec.ofNat 2 d⟩)
    else .error (.operandRange code)
  | _ => .error (.operandCount code)

/-- The command a code and its operands are (R108). Codes 19 to 31 are no commands (93 U5). -/
def decodeCommand (code : BitVec 5) (ops : List Nat) : Except DecodeError Instr :=
  match code.toNat with
  | 0 => noOperand code ops .create
  | 1 => noOperand code ops .destroy
  | 2 => noOperand code ops .clear
  | 3 => .ok (.decodeHex ops)
  | 4 => rawOperands code ops
  | 5 => threeOperands code ops .setCorrection
  | 6 => twoOperands code ops .setProgressive
  | 7 => twoOperands code ops .setListener
  | 8 => noOperand code ops .getPi
  | 9 => noOperand code ops .getPty
  | 10 => noOperand code ops .getTp
  | 11 => noOperand code ops .getTa
  | 12 => noOperand code ops .getMs
  | 13 => noOperand code ops .getEcc
  | 14 => noOperand code ops .getCountry
  | 15 => noOperand code ops .getPs
  | 16 => oneOperand code ops .getRt
  | 17 => noOperand code ops .getPtyn
  | 18 => noOperand code ops .getCt
  | _ => .error (.notACommand code)

/-- The instruction a frame is, or why it is none. -/
def decode : Frame → Except DecodeError Instr
  | .group g lv => .ok (decodeGroup g lv)
  | .command code ops => decodeCommand code ops

/-! ### The encoder -/

/-- A group from its opcode, its common fields and the 37 bits below `pty` (R91, R106 `common`). -/
def pack (op : BitVec 5) (h : Head) (payload : BitVec 37) : Group :=
  h.pi ++ op ++ BitVec.ofBool h.tp ++ h.pty ++ payload

def payloadRest (r : Rest) : BitVec 37 := r.spec ++ r.c ++ r.d

def payload0A (f : Group0A) : BitVec 37 :=
  BitVec.ofBool f.ta ++ BitVec.ofBool f.ms ++ BitVec.ofBool f.di ++ f.addr ++ f.af1 ++ f.af2 ++ f.c0 ++ f.c1

def payload0B (f : Group0B) : BitVec 37 :=
  BitVec.ofBool f.ta ++ BitVec.ofBool f.ms ++ BitVec.ofBool f.di ++ f.addr ++ f.c ++ f.c0 ++ f.c1

def payload1A (f : Group1A) : BitVec 37 :=
  f.spec ++ BitVec.ofBool f.la ++ f.variant ++ f.mid ++ f.ecc ++ f.d

def payload2A (f : Group2A) : BitVec 37 :=
  BitVec.ofBool f.f ++ f.addr ++ f.c0 ++ f.c1 ++ f.c2 ++ f.c3

def payload2B (f : Group2B) : BitVec 37 :=
  BitVec.ofBool f.f ++ f.addr ++ f.c ++ f.c0 ++ f.c1

def payload4A (f : Group4A) : BitVec 37 :=
  f.spare ++ f.mjd ++ f.hour ++ f.minute ++ BitVec.ofBool f.osign ++ f.omag

def payload10A (f : Group10A) : BitVec 37 :=
  BitVec.ofBool f.ab ++ f.spare ++ f.addr ++ f.c0 ++ f.c1 ++ f.c2 ++ f.c3

/-- The frame of an instruction. The opcode of group code `gt`, `ver` is `2 * gt + ver` (R92); the command codes
are those of R108. -/
def encode : Instr → Frame
  | .g0A lv h f => .group (pack 0#5 h (payload0A f)) lv
  | .g0B lv h f => .group (pack 1#5 h (payload0B f)) lv
  | .g1A lv h f => .group (pack 2#5 h (payload1A f)) lv
  | .g1B lv h r => .group (pack 3#5 h (payloadRest r)) lv
  | .g2A lv h f => .group (pack 4#5 h (payload2A f)) lv
  | .g2B lv h f => .group (pack 5#5 h (payload2B f)) lv
  | .g3A lv h r => .group (pack 6#5 h (payloadRest r)) lv
  | .g3B lv h r => .group (pack 7#5 h (payloadRest r)) lv
  | .g4A lv h f => .group (pack 8#5 h (payload4A f)) lv
  | .g4B lv h r => .group (pack 9#5 h (payloadRest r)) lv
  | .g5A lv h r => .group (pack 10#5 h (payloadRest r)) lv
  | .g5B lv h r => .group (pack 11#5 h (payloadRest r)) lv
  | .g6A lv h r => .group (pack 12#5 h (payloadRest r)) lv
  | .g6B lv h r => .group (pack 13#5 h (payloadRest r)) lv
  | .g7A lv h r => .group (pack 14#5 h (payloadRest r)) lv
  | .g7B lv h r => .group (pack 15#5 h (payloadRest r)) lv
  | .g8A lv h r => .group (pack 16#5 h (payloadRest r)) lv
  | .g8B lv h r => .group (pack 17#5 h (payloadRest r)) lv
  | .g9A lv h r => .group (pack 18#5 h (payloadRest r)) lv
  | .g9B lv h r => .group (pack 19#5 h (payloadRest r)) lv
  | .g10A lv h f => .group (pack 20#5 h (payload10A f)) lv
  | .g10B lv h r => .group (pack 21#5 h (payloadRest r)) lv
  | .g11A lv h r => .group (pack 22#5 h (payloadRest r)) lv
  | .g11B lv h r => .group (pack 23#5 h (payloadRest r)) lv
  | .g12A lv h r => .group (pack 24#5 h (payloadRest r)) lv
  | .g12B lv h r => .group (pack 25#5 h (payloadRest r)) lv
  | .g13A lv h r => .group (pack 26#5 h (payloadRest r)) lv
  | .g13B lv h r => .group (pack 27#5 h (payloadRest r)) lv
  | .g14A lv h r => .group (pack 28#5 h (payloadRest r)) lv
  | .g14B lv h r => .group (pack 29#5 h (payloadRest r)) lv
  | .g15A lv h r => .group (pack 30#5 h (payloadRest r)) lv
  | .g15B lv h r => .group (pack 31#5 h (payloadRest r)) lv
  | .create => .command 0#5 []
  | .destroy => .command 1#5 []
  | .clear => .command 2#5 []
  | .decodeHex chars => .command 3#5 chars
  | .decodeRaw g lv => .command 4#5 [g.toNat, lv.a.toNat, lv.b.toNat, lv.c.toNat, lv.d.toNat]
  | .setCorrection kind axis level => .command 5#5 [kind, axis, level]
  | .setProgressive kind enabled => .command 6#5 [kind, enabled]
  | .setListener k enabled => .command 7#5 [k, enabled]
  | .getPi => .command 8#5 []
  | .getPty => .command 9#5 []
  | .getTp => .command 10#5 []
  | .getTa => .command 11#5 []
  | .getMs => .command 12#5 []
  | .getEcc => .command 13#5 []
  | .getCountry => .command 14#5 []
  | .getPs => .command 15#5 []
  | .getRt flag => .command 16#5 [flag]
  | .getPtyn => .command 17#5 []
  | .getCt => .command 18#5 []

/-! ### Words of the opcode table -/

/-- The frame of a table word of `nbits` bits: a group row has 64 bits and its levels stand above them, so they are
0; a command row's word is its 5-bit code, and its operands, which the table gives no bits, are numbers 0, as many
as R108 lists (an empty string for DECODE_HEX). A word whose bits above the code are not 0 is no command. -/
def tableFrame (nbits w : Nat) : Option Frame :=
  if nbits = 64 then some (.group (BitVec.ofNat 64 w) Levels.zero)
  else if w < 32 then
    some (.command (BitVec.ofNat 5 w) (List.replicate (operandCount (BitVec.ofNat 5 w)) 0))
  else none

/-- The instruction the decoder reads from a table word; none where it refuses. -/
def decodeTableWord (nbits w : Nat) : Option Instr :=
  match tableFrame nbits w with
  | none => none
  | some f =>
    match decode f with
    | .ok i => some i
    | .error _ => none

end Sys2Proof
end

