-- ==== Sys2Proof/Machine/Flags.lean ====
section
/-!
DEFINITION. The scalar registers that a group writes. The hardware has no condition codes and no status register
(10_state R32); its flags are the tri-state registers TP, TA and MS. A step writes its register and emits its event
when the register differs from the group's field, an unknown register included (R12); writing an equal value
changes nothing, so the write stands without the test.
-/

namespace Sys2Proof.Machine

/-- The PI step (40_group_decoder R145). -/
def piStep (a : Block) (s : State) : State :=
  ({ s with pi := some a }).emitWhen (s.pi != some a) (.pi a)

/-- The TP step (R146). -/
def tpStep (b : Bool) (s : State) : State :=
  ({ s with tp := some b }).emitWhen (s.tp != some b) (.tp b)

/-- The PTY step (R147). -/
def ptyStep (v : BitVec 5) (s : State) : State :=
  ({ s with pty := some v }).emitWhen (s.pty != some v) (.pty v)

/-- The TA step (41_field_decoders R191). -/
def taStep (b : Bool) (s : State) : State :=
  ({ s with ta := some b }).emitWhen (s.ta != some b) (.ta b)

/-- The MS step (R192). -/
def msStep (b : Bool) (s : State) : State :=
  ({ s with ms := some b }).emitWhen (s.ms != some b) (.ms b)

/-- The ECC step (R210). -/
def eccStep (e : Byte) (s : State) : State :=
  ({ s with ecc := some e }).emitWhen (s.ecc != some e) (.ecc e)

/-- `COUNTRY_LOOKUP(PI[15:12], ECC)` of a state (R211); unknown while PI or ECC is, which the COUNTRY step never
meets, because the same command has just written both (log 8). -/
def lookupCountry (s : State) : Option CountryId :=
  match s.pi, s.ecc with
  | some p, some e => Config.countryLookup (p.extractLsb' 12 4) e
  | _, _ => none

/-- The COUNTRY step (R211). -/
def countryStep (s : State) : State :=
  ({ s with country := lookupCountry s }).emitWhen (s.country != lookupCountry s) (.country (lookupCountry s))

/-- The common part of every decode: PI, TP, PTY in this order (R142, decision D19). -/
def commonPart (h : Head) (s : State) : State := ptyStep h.pty (tpStep h.tp (piStep h.pi s))

/-- A group instruction: the event list starts empty, then the common part, then the group's own fields (R142). -/
def decodeWith (h : Head) (fields : State → State) (s : State) : Host.Outcome State Fault Refusal :=
  whenLive s fun s => fields (commonPart h s.begin)

end Sys2Proof.Machine
end

