-- ==== Sys2Proof/Machine/Af.lean ====
section
/-!
DEFINITION. The AF decoder (43_af_decoder R270 to R276).
-/

namespace Sys2Proof.Machine

/-- Code `n` is in `AFSET`; bit `n - 1` stands for code `n` (10_state R29). -/
def afMember (set : BitVec 204) (n : Byte) : Bool := decide (1 ≤ n.toNat) && set.getLsbD (n.toNat - 1)

/-- `AFSET ∪ {n}`. -/
def afInsert (set : BitVec 204) (n : Byte) : BitVec 204 := set ||| BitVec.twoPow 204 (n.toNat - 1)

/-- `af_add(n)` (R273). -/
def afAdd (n : Byte) (s : State) : State :=
  if isFrequencyCode n && !afMember s.afset n then
    ({ s with afset := afInsert s.afset n }).emit (.af (freqKhz n))
  else s

end Sys2Proof.Machine
end

