-- ==== Sys2Proof/Machine/Text.lean ====
section
/-!
DEFINITION. The text assembler (42_text_assembler R230 to R247) and the toggle step (41_field_decoders R200): the
stores of the hardware.
-/

namespace Sys2Proof.Machine

/-- The write rule's condition (R235, R236): stored character `x` at count `s`, incoming `c` at level `i`,
threshold `t`. -/
def overwrites (t s : Level) (x c : Byte) (i : Level) : Bool :=
  decide (i < s) || (decide (x ≠ c) && decide (i ≤ t) && decide (s ≠ i))

/-- The write rule at position `p` (R235). -/
def TextBuffer.offer (t : Level) (p : Nat) (c : Byte) (i : Level) (b : TextBuffer) : TextBuffer :=
  if overwrites t (b.errAt p) (b.chrAt p) c i then b.memWrite p c i else b

/-- Position `p` regresses: the write raises its stored error count (R237). -/
def TextBuffer.regresses (t : Level) (p : Nat) (c : Byte) (i : Level) (b : TextBuffer) : Bool :=
  overwrites t (b.errAt p) (b.chrAt p) c i && decide (b.errAt p < i)

/-- The confirmation counter after a segment (R238, decision D10). -/
def nextConf (t i : Level) (regress : Bool) (conf : Nat) : Nat :=
  if regress then 0 else if i ≤ t then min (conf + 2) Config.confMax else conf

/-- Every position below `efflen` is within the threshold (R241). -/
def TextBuffer.allWithin (t : Level) (b : TextBuffer) : Bool :=
  (List.range b.efflen).all fun p => decide (b.errAt p ≤ t)

/-- The publication test (R241, decision D10). -/
def TextBuffer.publishTest (prog : Bool) (t : Level) (b : TextBuffer) : Bool :=
  prog || (decide (b.efflen ≤ b.conf) && b.allWithin t)

/-- `write_segment` on a buffer (R234): the write rule at `o` and `o + 1`, the confirmation counter, the
publication test. -/
def TextBuffer.writeSegment (prog : Bool) (t : Level) (o : Nat) (c0 c1 : Byte) (i : Level) (b : TextBuffer) :
    TextBuffer :=
  let b1 := b.offer t o c0 i
  let b2 := b1.offer t (o + 1) c1 i
  let regress := b.regresses t o c0 i || b1.regresses t (o + 1) c1 i
  let b3 := { b2 with conf := nextConf t i regress b2.conf }
  if b3.publishTest prog t then b3.publish else b3

/-- `write_segment(buf, o, c0, c1, i)` with the configuration of the buffer's kind (R234, R44). -/
def writeSegment (id : BufId) (o : Nat) (c0 c1 : Byte) (i : Level) (s : State) : State :=
  s.setBuf id ((s.buf id).writeSegment (s.prog.get id.kind) (s.thr.get id.kind .data) o c0 c1 i)

/-- `rt_select(f)` (R200, decision D13). -/
def rtSelect (f : Bool) (s : State) : State :=
  if s.rtActive = some f then s
  else ({ s with rtActive := some f }).setBuf (.rt f) (TextBuffer.blank Config.rtLen)

/-- `RT[f].efflen <- n` (R201, R203, R204). -/
def setEfflen (f : Bool) (n : Nat) (s : State) : State :=
  s.setBuf (.rt f) { s.buf (.rt f) with efflen := n }

/-- The intake of every text group (R230): the INFO gate (R231), then `writes` (for RT the toggle step and the
effective length, then the segments), then the text event if the published copy changed (R232, decision D12). -/
def textGroup (id : BufId) (beB : Level) (writes : State → State) (s : State) : State :=
  if s.thr.get id.kind .info < beB then s
  else (writes s).emitWhen (!samePublished id.len (s.buf id) ((writes s).buf id)) id.event

end Sys2Proof.Machine
end

