-- ==== Sys2Proof/Machine/FieldDecoders.lean ====
section
/-!
DEFINITION. The field decoders of the recognised groups (41_field_decoders, 44_clock_time) and the dispatch of a
group to them (40_group_decoder R142, R148). The group instructions and the two decode commands share them.
-/

namespace Sys2Proof.Machine

/-- The PS segment step (R193): positions `2a`, `2a + 1`. -/
def psSegment (lv : Levels) (addr : BitVec 2) (c0 c1 : Byte) (s : State) : State :=
  textGroup .ps lv.b (writeSegment .ps (2 * addr.toNat) c0 c1 lv.d) s

/-- `group_0A` (R190). -/
def group0A (lv : Levels) (f : Group0A) (s : State) : State :=
  psSegment lv f.addr f.c0 f.c1 (afAdd f.af2 (afAdd f.af1 (msStep f.ms (taStep f.ta s))))

/-- `group_0B` (R195). -/
def group0B (lv : Levels) (f : Group0B) (s : State) : State :=
  psSegment lv f.addr f.c0 f.c1 (msStep f.ms (taStep f.ta s))

/-- `group_1A` (R209): the ECC and the country, of variant 0 only. -/
def group1A (f : Group1A) (s : State) : State :=
  if f.variant = 0#3 then countryStep (eccStep f.ecc s) else s

/-- The writes of a group 2A (R201): toggle, effective length 64, block C at `4a`, block D at `4a + 2`. -/
def writes2A (lv : Levels) (f : Group2A) (s : State) : State :=
  writeSegment (.rt f.f) (4 * f.addr.toNat + 2) f.c2 f.c3 lv.d
    (writeSegment (.rt f.f) (4 * f.addr.toNat) f.c0 f.c1 lv.c
      (setEfflen f.f Config.rtLen (rtSelect f.f s)))

/-- `group_2A` (R201). -/
def group2A (lv : Levels) (f : Group2A) (s : State) : State :=
  textGroup (.rt f.f) lv.b (writes2A lv f) s

/-- The writes of a group 2B (R203): toggle, effective length 32, block D at `2a`. -/
def writes2B (lv : Levels) (f : Group2B) (s : State) : State :=
  writeSegment (.rt f.f) (2 * f.addr.toNat) f.c0 f.c1 lv.d
    (setEfflen f.f Config.efflen2B (rtSelect f.f s))

/-- `group_2B` (R203). -/
def group2B (lv : Levels) (f : Group2B) (s : State) : State :=
  textGroup (.rt f.f) lv.b (writes2B lv f) s

/-- `group_4A` (R290): an invalid hour or minute leaves `CT` as it was, without an event (R298); a valid group
writes the snapshot and emits it whether it changed or not (R297, decision D18). -/
def group4A (f : Group4A) (s : State) : State :=
  if clockFieldsValid f then ({ s with ct := some (snapshot f) }).emit (.ct (snapshot f)) else s

/-- The writes of a group 10A (R215): block C at `4a`, block D at `4a + 2`. -/
def writes10A (lv : Levels) (f : Group10A) (s : State) : State :=
  writeSegment .ptyn (4 * f.addr.toNat + 2) f.c2 f.c3 lv.d
    (writeSegment .ptyn (4 * f.addr.toNat) f.c0 f.c1 lv.c s)

/-- `group_10A` (R215), under the configuration of kind PS (R44). -/
def group10A (lv : Levels) (f : Group10A) (s : State) : State :=
  textGroup .ptyn lv.b (writes10A lv f) s

/-- The dispatch (R148): a pure function of the opcode, seven decoders, nothing for the other 25 codes. -/
def dispatchGroup (g : Group) (lv : Levels) (s : State) : State :=
  match (opcode g).toNat with
  | 0 => group0A lv (fields0A g) s
  | 1 => group0B lv (fields0B g) s
  | 2 => group1A (fields1A g) s
  | 4 => group2A lv (fields2A g) s
  | 5 => group2B lv (fields2B g) s
  | 8 => group4A (fields4A g) s
  | 20 => group10A lv (fields10A g) s
  | _ => s

/-- DECODE_RAW's semantics on a live instance (R142). -/
def decodeRawGroup (g : Group) (lv : Levels) (s : State) : State :=
  dispatchGroup g lv (commonPart (headOf g) s.begin)

end Sys2Proof.Machine
end

