-- ==== Sys2Proof/Machine/Commands.lean ====
section
/-!
DEFINITION. The commands that decode, that begin and end a life, and that configure (40_group_decoder R140, R142;
45_commands R321 to R330).
-/

namespace Sys2Proof.Machine

/-- CREATE (R321), the reset, on any instance: every item of state takes its reset value and LIFE is LIVE. The
commands the host has still to issue are not the hardware's state (log 1). -/
def execCreate (s : State) : Host.Outcome State Fault Refusal :=
  .next { State.reset with inbox := s.inbox }

/-- DESTROY (R322). -/
def execDestroy (s : State) : Host.Outcome State Fault Refusal :=
  whenLive s fun s => { s with life := .destroyed, out := Result.okay }

/-- CLEAR (R323): every decoded value and every buffer; the configuration, the listeners and LIFE stay. -/
def execClear (s : State) : Host.Outcome State Fault Refusal :=
  whenLive s fun s =>
    { s with
      pi := none, pty := none, tp := none, ta := none, ms := none, ecc := none, country := none
      rtActive := none, afset := 0#204, ct := none
      ps := TextBuffer.blank Config.nameLen, rt0 := TextBuffer.blank Config.rtLen
      rt1 := TextBuffer.blank Config.rtLen, ptyn := TextBuffer.blank Config.nameLen
      out := Result.okay }

/-- DECODE_HEX (R140): a string that is not 16 hexadecimal digits is rejected before anything is written (R141);
otherwise DECODE_RAW with all levels 0. -/
def execDecodeHex (chars : List Nat) (s : State) : Host.Outcome State Fault Refusal :=
  whenLive s fun s =>
    match parseHex chars with
    | some g => decodeRawGroup g Levels.zero s
    | none => s.reject .malformedInput

/-- DECODE_RAW (R142). -/
def execDecodeRaw (g : Group) (lv : Levels) (s : State) : Host.Outcome State Fault Refusal :=
  whenLive s (decodeRawGroup g lv)

/-- SET_CORRECTION (R327). -/
def execSetCorrection (kind axis level : Nat) (s : State) : Host.Outcome State Fault Refusal :=
  whenLive s fun s =>
    match kindOfCode kind, axisOfCode axis, levelOfCode level with
    | some k, some x, some l => { s with thr := s.thr.set k x l, out := Result.okay }
    | _, _, _ => s.reject .invalidArgument

/-- SET_PROGRESSIVE (R328). -/
def execSetProgressive (kind enabled : Nat) (s : State) : Host.Outcome State Fault Refusal :=
  whenLive s fun s =>
    match kindOfCode kind, bitOfCode enabled with
    | some k, some b => { s with prog := s.prog.set k b, out := Result.okay }
    | _, _ => s.reject .invalidArgument

/-- SET_LISTENER (R329). -/
def execSetListener (k enabled : Nat) (s : State) : Host.Outcome State Fault Refusal :=
  whenLive s fun s =>
    match eventKindOfCode k, bitOfCode enabled with
    | some e, some b => { s with listen := s.listen.set e b, out := Result.okay }
    | _, _ => s.reject .invalidArgument

end Sys2Proof.Machine
end

