-- ==== Sys2Proof/Machine/CommonGroups.lean ====
section
/-!
DEFINITION. The meanings of the 25 group codes without a field decoder (40_group_decoder R150 to R175): the common
part and nothing else; the levels, `spec`, block C and block D are read by no rule.
-/

namespace Sys2Proof.Machine

/-- Group 1B (R151). -/
def execG1B (_lv : Levels) (h : Head) (_r : Rest) (s : State) : Host.Outcome State Fault Refusal :=
  decodeWith h id s

/-- Group 3A (R152). -/
def execG3A (_lv : Levels) (h : Head) (_r : Rest) (s : State) : Host.Outcome State Fault Refusal :=
  decodeWith h id s

/-- Group 3B (R153). -/
def execG3B (_lv : Levels) (h : Head) (_r : Rest) (s : State) : Host.Outcome State Fault Refusal :=
  decodeWith h id s

/-- Group 4B (R154). -/
def execG4B (_lv : Levels) (h : Head) (_r : Rest) (s : State) : Host.Outcome State Fault Refusal :=
  decodeWith h id s

/-- Group 5A (R155). -/
def execG5A (_lv : Levels) (h : Head) (_r : Rest) (s : State) : Host.Outcome State Fault Refusal :=
  decodeWith h id s

/-- Group 5B (R156). -/
def execG5B (_lv : Levels) (h : Head) (_r : Rest) (s : State) : Host.Outcome State Fault Refusal :=
  decodeWith h id s

/-- Group 6A (R157). -/
def execG6A (_lv : Levels) (h : Head) (_r : Rest) (s : State) : Host.Outcome State Fault Refusal :=
  decodeWith h id s

/-- Group 6B (R158). -/
def execG6B (_lv : Levels) (h : Head) (_r : Rest) (s : State) : Host.Outcome State Fault Refusal :=
  decodeWith h id s

/-- Group 7A (R159). -/
def execG7A (_lv : Levels) (h : Head) (_r : Rest) (s : State) : Host.Outcome State Fault Refusal :=
  decodeWith h id s

/-- Group 7B (R160). -/
def execG7B (_lv : Levels) (h : Head) (_r : Rest) (s : State) : Host.Outcome State Fault Refusal :=
  decodeWith h id s

/-- Group 8A (R161). -/
def execG8A (_lv : Levels) (h : Head) (_r : Rest) (s : State) : Host.Outcome State Fault Refusal :=
  decodeWith h id s

/-- Group 8B (R162). -/
def execG8B (_lv : Levels) (h : Head) (_r : Rest) (s : State) : Host.Outcome State Fault Refusal :=
  decodeWith h id s

/-- Group 9A (R163). -/
def execG9A (_lv : Levels) (h : Head) (_r : Rest) (s : State) : Host.Outcome State Fault Refusal :=
  decodeWith h id s

/-- Group 9B (R164). -/
def execG9B (_lv : Levels) (h : Head) (_r : Rest) (s : State) : Host.Outcome State Fault Refusal :=
  decodeWith h id s

/-- Group 10B (R165). -/
def execG10B (_lv : Levels) (h : Head) (_r : Rest) (s : State) : Host.Outcome State Fault Refusal :=
  decodeWith h id s

/-- Group 11A (R166). -/
def execG11A (_lv : Levels) (h : Head) (_r : Rest) (s : State) : Host.Outcome State Fault Refusal :=
  decodeWith h id s

/-- Group 11B (R167). -/
def execG11B (_lv : Levels) (h : Head) (_r : Rest) (s : State) : Host.Outcome State Fault Refusal :=
  decodeWith h id s

/-- Group 12A (R168). -/
def execG12A (_lv : Levels) (h : Head) (_r : Rest) (s : State) : Host.Outcome State Fault Refusal :=
  decodeWith h id s

/-- Group 12B (R169). -/
def execG12B (_lv : Levels) (h : Head) (_r : Rest) (s : State) : Host.Outcome State Fault Refusal :=
  decodeWith h id s

/-- Group 13A (R170). -/
def execG13A (_lv : Levels) (h : Head) (_r : Rest) (s : State) : Host.Outcome State Fault Refusal :=
  decodeWith h id s

/-- Group 13B (R171). -/
def execG13B (_lv : Levels) (h : Head) (_r : Rest) (s : State) : Host.Outcome State Fault Refusal :=
  decodeWith h id s

/-- Group 14A (R172). -/
def execG14A (_lv : Levels) (h : Head) (_r : Rest) (s : State) : Host.Outcome State Fault Refusal :=
  decodeWith h id s

/-- Group 14B (R173). -/
def execG14B (_lv : Levels) (h : Head) (_r : Rest) (s : State) : Host.Outcome State Fault Refusal :=
  decodeWith h id s

/-- Group 15A (R174). -/
def execG15A (_lv : Levels) (h : Head) (_r : Rest) (s : State) : Host.Outcome State Fault Refusal :=
  decodeWith h id s

/-- Group 15B (R175). -/
def execG15B (_lv : Levels) (h : Head) (_r : Rest) (s : State) : Host.Outcome State Fault Refusal :=
  decodeWith h id s

end Sys2Proof.Machine
end

