-- ==== Sys2Proof/Machine/RecognisedGroups.lean ====
section
/-!
DEFINITION. The meanings of the seven group codes with a field decoder. Each is the DECODE_RAW of such a group with
its block error levels (40_group_decoder R142; log 3).
-/

namespace Sys2Proof.Machine

/-- Group 0A (41_field_decoders R190). -/
def execG0A (lv : Levels) (h : Head) (f : Group0A) (s : State) : Host.Outcome State Fault Refusal :=
  decodeWith h (group0A lv f) s

/-- Group 0B (R195). -/
def execG0B (lv : Levels) (h : Head) (f : Group0B) (s : State) : Host.Outcome State Fault Refusal :=
  decodeWith h (group0B lv f) s

/-- Group 1A (R209). The levels have no effect on it (R149). -/
def execG1A (_lv : Levels) (h : Head) (f : Group1A) (s : State) : Host.Outcome State Fault Refusal :=
  decodeWith h (group1A f) s

/-- Group 2A (R201). -/
def execG2A (lv : Levels) (h : Head) (f : Group2A) (s : State) : Host.Outcome State Fault Refusal :=
  decodeWith h (group2A lv f) s

/-- Group 2B (R203). -/
def execG2B (lv : Levels) (h : Head) (f : Group2B) (s : State) : Host.Outcome State Fault Refusal :=
  decodeWith h (group2B lv f) s

/-- Group 4A (44_clock_time R290). The levels have no effect on it (R149). -/
def execG4A (_lv : Levels) (h : Head) (f : Group4A) (s : State) : Host.Outcome State Fault Refusal :=
  decodeWith h (group4A f) s

/-- Group 10A (41_field_decoders R215). -/
def execG10A (lv : Levels) (h : Head) (f : Group10A) (s : State) : Host.Outcome State Fault Refusal :=
  decodeWith h (group10A lv f) s

end Sys2Proof.Machine
end

