-- ==== Sys2Proof/Machine/Dispatch.lean ====
section
/-!
DEFINITION. One arm for each instruction.
-/

namespace Sys2Proof.Machine

def exec (i : Instr) (s : State) : Host.Outcome State Fault Refusal :=
  match i with
  | .g0A lv h f => Sys2Proof.Machine.execG0A lv h f s
  | .g0B lv h f => Sys2Proof.Machine.execG0B lv h f s
  | .g1A lv h f => Sys2Proof.Machine.execG1A lv h f s
  | .g1B lv h r => Sys2Proof.Machine.execG1B lv h r s
  | .g2A lv h f => Sys2Proof.Machine.execG2A lv h f s
  | .g2B lv h f => Sys2Proof.Machine.execG2B lv h f s
  | .g3A lv h r => Sys2Proof.Machine.execG3A lv h r s
  | .g3B lv h r => Sys2Proof.Machine.execG3B lv h r s
  | .g4A lv h f => Sys2Proof.Machine.execG4A lv h f s
  | .g4B lv h r => Sys2Proof.Machine.execG4B lv h r s
  | .g5A lv h r => Sys2Proof.Machine.execG5A lv h r s
  | .g5B lv h r => Sys2Proof.Machine.execG5B lv h r s
  | .g6A lv h r => Sys2Proof.Machine.execG6A lv h r s
  | .g6B lv h r => Sys2Proof.Machine.execG6B lv h r s
  | .g7A lv h r => Sys2Proof.Machine.execG7A lv h r s
  | .g7B lv h r => Sys2Proof.Machine.execG7B lv h r s
  | .g8A lv h r => Sys2Proof.Machine.execG8A lv h r s
  | .g8B lv h r => Sys2Proof.Machine.execG8B lv h r s
  | .g9A lv h r => Sys2Proof.Machine.execG9A lv h r s
  | .g9B lv h r => Sys2Proof.Machine.execG9B lv h r s
  | .g10A lv h f => Sys2Proof.Machine.execG10A lv h f s
  | .g10B lv h r => Sys2Proof.Machine.execG10B lv h r s
  | .g11A lv h r => Sys2Proof.Machine.execG11A lv h r s
  | .g11B lv h r => Sys2Proof.Machine.execG11B lv h r s
  | .g12A lv h r => Sys2Proof.Machine.execG12A lv h r s
  | .g12B lv h r => Sys2Proof.Machine.execG12B lv h r s
  | .g13A lv h r => Sys2Proof.Machine.execG13A lv h r s
  | .g13B lv h r => Sys2Proof.Machine.execG13B lv h r s
  | .g14A lv h r => Sys2Proof.Machine.execG14A lv h r s
  | .g14B lv h r => Sys2Proof.Machine.execG14B lv h r s
  | .g15A lv h r => Sys2Proof.Machine.execG15A lv h r s
  | .g15B lv h r => Sys2Proof.Machine.execG15B lv h r s
  | .create => Sys2Proof.Machine.execCreate s
  | .destroy => Sys2Proof.Machine.execDestroy s
  | .clear => Sys2Proof.Machine.execClear s
  | .decodeHex chars => Sys2Proof.Machine.execDecodeHex chars s
  | .decodeRaw g lv => Sys2Proof.Machine.execDecodeRaw g lv s
  | .setCorrection kind axis level => Sys2Proof.Machine.execSetCorrection kind axis level s
  | .setProgressive kind enabled => Sys2Proof.Machine.execSetProgressive kind enabled s
  | .setListener k enabled => Sys2Proof.Machine.execSetListener k enabled s
  | .getPi => Sys2Proof.Machine.execGetPi s
  | .getPty => Sys2Proof.Machine.execGetPty s
  | .getTp => Sys2Proof.Machine.execGetTp s
  | .getTa => Sys2Proof.Machine.execGetTa s
  | .getMs => Sys2Proof.Machine.execGetMs s
  | .getEcc => Sys2Proof.Machine.execGetEcc s
  | .getCountry => Sys2Proof.Machine.execGetCountry s
  | .getPs => Sys2Proof.Machine.execGetPs s
  | .getRt flag => Sys2Proof.Machine.execGetRt flag s
  | .getPtyn => Sys2Proof.Machine.execGetPtyn s
  | .getCt => Sys2Proof.Machine.execGetCt s

end Sys2Proof.Machine
end

