-- ==== Sys2Proof/Machine/Step.lean ====
section
/-!
DEFINITION. One step: the next command of the host's stream, decoded and executed. There is no program counter and
no fetch (10_state R21); the stream is the model's own bookkeeping (log 1).
-/

namespace Sys2Proof.Machine

/-- One step. With no command waiting the hardware is idle and keeps all state (60_exceptions R384; log 14). A frame
that is no instruction is refused (log 4). -/
def step (s : State) : Host.Outcome State Fault Refusal :=
  match s.inbox with
  | [] => .next s
  | frame :: rest =>
    match Sys2Proof.decode frame with
    | .ok i => exec i { s with inbox := rest }
    | .error e => .refused (.badFrame e)

/-- The host issues the command of a table word next (log 1). A word that is no frame of the table issues nothing. -/
def State.withFetchWord (s : State) (nbits w : Nat) : State :=
  match Sys2Proof.tableFrame nbits w with
  | some frame => { s with inbox := frame :: s.inbox }
  | none => s

end Sys2Proof.Machine
end

