-- ==== Sys2Proof/Machine/Invariant.lean ====
section
/-!
DEFINITION. What every reachable state keeps: the invariants of 10_state R43, the ranges of `CT` (R30), and which
registers are unknown together. The calendar is the proleptic Gregorian one (44_clock_time R294).
-/

namespace Sys2Proof.Machine

/-- A leap year of the Gregorian calendar (R294). -/
def isLeapYear (y : Nat) : Bool := (y % 4 == 0 && y % 100 != 0) || y % 400 == 0

/-- The days of a month; 0 for a number that is no month. -/
def daysInMonth (y m : Nat) : Nat :=
  match m with
  | 1 => 31
  | 2 => if isLeapYear y then 29 else 28
  | 3 => 31
  | 4 => 30
  | 5 => 31
  | 6 => 30
  | 7 => 31
  | 8 => 31
  | 9 => 30
  | 10 => 31
  | 11 => 30
  | 12 => 31
  | _ => 0

/-- A date of the calendar. -/
def validDate (y m d : Nat) : Bool := decide (1 ≤ d) && decide (d ≤ daysInMonth y m)

/-- The ranges of `CT` (R30), the day being one of its month. -/
def ClockTime.valid (c : ClockTime) : Bool :=
  decide (1858 ≤ c.year) && decide (c.year ≤ 2217) && validDate c.year c.month c.day &&
  decide (c.hour ≤ 23) && decide (c.minute ≤ 59) && decide (-31 ≤ c.offsetHh) && decide (c.offsetHh ≤ 31)

/-- A buffer of length `len` (R43): its four memories in canonical form inside the buffer, `conf` at most 64. -/
def TextBuffer.wf (len : Nat) (b : TextBuffer) : Bool :=
  b.chr.wf len && b.err.wf len && b.pubChr.wf len && b.pubErr.wf len && decide (b.conf ≤ Config.confMax)

/-- The effective lengths a buffer can have (R43). -/
def BufId.efflenOk : BufId → Nat → Bool
  | .ps, n => n == Config.nameLen
  | .rt _, n => n == Config.efflen2B || n == Config.rtLen
  | .ptyn, n => n == Config.nameLen

/-- A buffer of the state is as R43 says. -/
def State.bufWf (s : State) (id : BufId) : Bool := (s.buf id).wf id.len && id.efflenOk (s.buf id).efflen

/-- The state is well formed: its four buffers (R43) and its clock time (R30). -/
def State.wf (s : State) : Bool :=
  s.bufWf .ps && s.bufWf (.rt false) && s.bufWf (.rt true) && s.bufWf .ptyn &&
  (match s.ct with
   | none => true
   | some c => c.valid)

/-- Registers that are unknown together: PI, TP and PTY (every decode writes all three, R144), TA and MS (R191,
R192), COUNTRY while ECC is (R209); and both RT buffers are blank while no toggle has been seen (R205). -/
def State.knownTogether (s : State) : Bool :=
  (s.pi.isSome == s.tp.isSome) && (s.tp.isSome == s.pty.isSome) && (s.ta.isSome == s.ms.isSome) &&
  (s.ecc.isSome || s.country.isNone) && (s.pi.isSome || s.ecc.isNone) && (s.pi.isSome || s.ta.isNone) &&
  (s.rtActive.isSome ||
    (s.rt0 == TextBuffer.blank Config.rtLen && s.rt1 == TextBuffer.blank Config.rtLen))

end Sys2Proof.Machine
end

