-- ==== Sys2Proof/Safety.lean ====
section
/-!
DEFINITION. What counts as a safe run. Nothing in this hardware is fatal (60_exceptions R360, R365): a live instance
answers every command of the command language, and the only refusals are those of a destroyed instance and of
frames that are no command.
-/

namespace Sys2Proof.Machine

/-- A command the machine must answer waits: the instance is live and the next frame is well formed. -/
def State.ready (s : State) : Bool :=
  match s.life, s.inbox with
  | .live, frame :: _ => frame.wf
  | _, _ => false

/-- A safe state: well formed, with the registers that go together known together. -/
def State.safe (s : State) : Bool := s.wf && s.knownTogether

/-- The outcome is a next state with property `p`. -/
def nextWith (p : State → Bool) : Host.Outcome State Fault Refusal → Bool
  | .next t => p t
  | .fault _ => false
  | .refused _ => false

end Sys2Proof.Machine
end

