-- ==== Sys2Proof/Certificates/Slice0/Obligations.lean ====
section
/-!
DEFINITION. The statements for the provers. Each formalises rules of spec/ or, where its docstring says so, a
decision the spec marks as its own or a choice of the model.
-/

namespace Sys2Proof.Claims

open Sys2Proof.Machine

/-! ### The blocks of a group, as the rules write them -/

/-- `A = G[63:48]` (R11). -/
def blockA (g : Group) : Block := g.extractLsb' 48 16

/-- `B = G[47:32]` (R11). -/
def blockB (g : Group) : Block := g.extractLsb' 32 16

/-- `C = G[31:16]` (R11). -/
def blockC (g : Group) : Block := g.extractLsb' 16 16

/-- `D = G[15:0]` (R11). -/
def blockD (g : Group) : Block := g.extractLsb' 0 16

/-- The group an instruction carries: a group instruction's own word, DECODE_RAW's operand, DECODE_HEX's string. -/
def groupOf (i : Instr) : Option Group :=
  match i with
  | .decodeRaw g _ => some g
  | .decodeHex chars => parseHex chars
  | i =>
    match encode i with
    | .group g _ => some g
    | .command _ _ => none

/-- The number `2 * gt + ver` of a group instruction; none of a command. -/
def groupCode : Instr → Option Nat
  | .g0A _ _ _ => some 0
  | .g0B _ _ _ => some 1
  | .g1A _ _ _ => some 2
  | .g1B _ _ _ => some 3
  | .g2A _ _ _ => some 4
  | .g2B _ _ _ => some 5
  | .g3A _ _ _ => some 6
  | .g3B _ _ _ => some 7
  | .g4A _ _ _ => some 8
  | .g4B _ _ _ => some 9
  | .g5A _ _ _ => some 10
  | .g5B _ _ _ => some 11
  | .g6A _ _ _ => some 12
  | .g6B _ _ _ => some 13
  | .g7A _ _ _ => some 14
  | .g7B _ _ _ => some 15
  | .g8A _ _ _ => some 16
  | .g8B _ _ _ => some 17
  | .g9A _ _ _ => some 18
  | .g9B _ _ _ => some 19
  | .g10A _ _ _ => some 20
  | .g10B _ _ _ => some 21
  | .g11A _ _ _ => some 22
  | .g11B _ _ _ => some 23
  | .g12A _ _ _ => some 24
  | .g12B _ _ _ => some 25
  | .g13A _ _ _ => some 26
  | .g13B _ _ _ => some 27
  | .g14A _ _ _ => some 28
  | .g14B _ _ _ => some 29
  | .g15A _ _ _ => some 30
  | .g15B _ _ _ => some 31
  | _ => none

/-- The 25 group codes without a field decoder (R150 to R175). -/
def commonOnly (lv : Levels) (h : Head) (r : Rest) : List Instr :=
  [.g1B lv h r, .g3A lv h r, .g3B lv h r, .g4B lv h r, .g5A lv h r, .g5B lv h r, .g6A lv h r, .g6B lv h r,
   .g7A lv h r, .g7B lv h r, .g8A lv h r, .g8B lv h r, .g9A lv h r, .g9B lv h r, .g10B lv h r, .g11A lv h r,
   .g11B lv h r, .g12A lv h r, .g12B lv h r, .g13A lv h r, .g13B lv h r, .g14A lv h r, .g14B lv h r,
   .g15A lv h r, .g15B lv h r]

/-! ### Events -/

/-- The event of a register that takes a new value: there if it is listened to and the register differed. -/
def changeEvent {α : Type} [DecidableEq α] (listened : Bool) (old : Option α) (new : α) (e : Event) : List Event :=
  if listened = true ∧ old ≠ some new then [e] else []

/-- The events of the common part, in the order PI, TP, PTY (R373). -/
def commonEvents (h : Head) (s : State) : List Event :=
  changeEvent s.listen.pi s.pi h.pi (.pi h.pi) ++ changeEvent s.listen.tp s.tp h.tp (.tp h.tp) ++
    changeEvent s.listen.pty s.pty h.pty (.pty h.pty)

/-- The published copies differ in some position below `len`, character or error count (R232). -/
def publishedDiffers (len : Nat) (b b' : TextBuffer) : Bool :=
  (List.range len).any fun p => b.pubChrAt p != b'.pubChrAt p || b.pubErrAt p != b'.pubErrAt p

/-- The text event of a buffer (R232). -/
def textEvent (listened : Bool) (len : Nat) (b b' : TextBuffer) (e : Event) : List Event :=
  if listened = true ∧ publishedDiffers len b b' = true then [e] else []

/-- The AF event of a code that is new (R273): `known` says whether it is already in the set. -/
def afEvent (listened known : Bool) (n : Byte) : List Event :=
  if listened = true ∧ 1 ≤ n.toNat ∧ n.toNat ≤ 204 ∧ known = false then [.af (87500 + 100 * n.toNat)] else []

/-! ### Text -/

/-- The write rule at position `p` (R235), the tie kept (R236): what `b'` holds where `c` at level `i` was offered to
`b` under threshold `t`. -/
def PositionWritten (t : Level) (p : Nat) (c : Byte) (i : Level) (b b' : TextBuffer) : Prop :=
  (i < b.errAt p ∨ (b.chrAt p ≠ c ∧ i ≤ t ∧ b.errAt p ≠ i) → b'.chrAt p = c ∧ b'.errAt p = i) ∧
  (¬ (i < b.errAt p ∨ (b.chrAt p ≠ c ∧ i ≤ t ∧ b.errAt p ≠ i)) →
    b'.chrAt p = b.chrAt p ∧ b'.errAt p = b.errAt p)

/-- The working copy is the same at position `p`. -/
def SameAt (p : Nat) (b b' : TextBuffer) : Prop := b'.chrAt p = b.chrAt p ∧ b'.errAt p = b.errAt p

/-- A position the segment was offered to regressed: its error count rose (R237). -/
def Regressed (o : Nat) (b b' : TextBuffer) : Prop := b.errAt o < b'.errAt o ∨ b.errAt (o + 1) < b'.errAt (o + 1)

/-- The non-progressive publication test (R241). -/
def FullPass (t : Level) (b : TextBuffer) : Prop := b.efflen ≤ b.conf ∧ ∀ p, p < b.efflen → b.errAt p ≤ t

/-- `b'` is `b` after `write_segment` at `o` (R234 to R241): the two positions by the write rule, every other position
as before, the confirmation counter, the publication. -/
def SegmentWritten (prog : Bool) (t : Level) (o : Nat) (c0 c1 : Byte) (i : Level) (b b' : TextBuffer) : Prop :=
  PositionWritten t o c0 i b b' ∧ PositionWritten t (o + 1) c1 i b b' ∧
  (∀ p, p ≠ o → p ≠ o + 1 → SameAt p b b') ∧
  b'.efflen = b.efflen ∧
  (Regressed o b b' → b'.conf = 0) ∧
  (¬ Regressed o b b' → i ≤ t → b'.conf = min (b.conf + 2) 64) ∧
  (¬ Regressed o b b' → t < i → b'.conf = b.conf) ∧
  (prog = true ∨ FullPass t b' → ∀ p, b'.pubChrAt p = b'.chrAt p ∧ b'.pubErrAt p = b'.errAt p) ∧
  (¬ (prog = true ∨ FullPass t b') → ∀ p, b'.pubChrAt p = b.pubChrAt p ∧ b'.pubErrAt p = b.pubErrAt p)

/-- What the PS part of a group 0 leaves: the INFO gate (R231), then the segment at `2 * addr` (R193). -/
def PsOffered (lv : Levels) (addr : BitVec 2) (c0 c1 : Byte) (s t : State) : Prop :=
  (s.thr.psInfo < lv.b → t.ps = s.ps) ∧
  (lv.b ≤ s.thr.psInfo → SegmentWritten s.prog.ps s.thr.psData (2 * addr.toNat) c0 c1 lv.d s.ps t.ps)

/-- The RT buffer of flag `f` as the toggle step and the effective length leave it (R200, R204). -/
def toggled (f : Bool) (efflen : Nat) (s : State) : TextBuffer :=
  { (if s.rtActive = some f then s.buf (.rt f) else TextBuffer.blank 64) with efflen := efflen }

/-! ### Results -/

/-- A decode that succeeds: the three common registers hold the group's values, `ok` is true (R144). -/
def Decoded (h : Head) (t : State) : Prop :=
  t.pi = some h.pi ∧ t.tp = some h.tp ∧ t.pty = some h.pty ∧ t.out.ok = true ∧ t.out.value = .nothing

/-- The state with PI, TP, PTY and the result of `t`, and all else of `s`. -/
def commonFrom (t s : State) : State := { s with pi := t.pi, tp := t.tp, pty := t.pty, out := t.out }

/-- A command that only returns a result. -/
def resultOnly (s : State) (v : Value) : State := { s with out := { ok := true, value := v, events := [] } }

/-- A rejected command: no state change, no event, `ok = false` (R14). -/
def rejected (s : State) : State := { s with out := { ok := false, value := .nothing, events := [] } }

/-- The view of a published copy (R244). -/
def IsViewOf (len : Nat) (b : TextBuffer) (v : TextView) : Prop :=
  v.length = len ∧ v.content.length = len ∧ v.errors.length = len ∧
  ∀ p, p < len → v.content[p]? = some (charmap (b.pubChrAt p)) ∧ v.errors[p]? = some (b.pubErrAt p)

/-- A hexadecimal digit in either letter case (R143, decision D20). -/
def isHexDigit (ch : Nat) : Prop :=
  (0x30 ≤ ch ∧ ch ≤ 0x39) ∨ (0x41 ≤ ch ∧ ch ≤ 0x46) ∨ (0x61 ≤ ch ∧ ch ≤ 0x66)

/-- The value of a hexadecimal digit (R143). -/
def hexDigitValue (ch : Nat) : Nat := if ch ≤ 0x39 then ch - 0x30 else if ch ≤ 0x46 then ch - 0x37 else ch - 0x57

/-- The group of 16 digits, `sum over j of hexval(s[j]) * 16^(15 - j)` (R140). -/
def hexGroup (chars : List Nat) : Group :=
  BitVec.ofNat 64 ((List.range 16).map fun j => hexDigitValue (chars.getD j 0) * 16 ^ (15 - j)).sum

/-- A decode of `g` succeeded and left PI, TP and PTY as R144 says. -/
def HoldsCommon (g : Group) (t : State) : Prop :=
  t.out.ok = true ∧ t.pi = some (blockA g) ∧ t.tp = some ((blockB g).getLsbD 10) ∧
    t.pty = some ((blockB g).extractLsb' 5 5)

/-- The day after a date of the Gregorian calendar. -/
def nextDay : Nat × Nat × Nat → Nat × Nat × Nat
  | (y, m, d) => if d < daysInMonth y m then (y, m, d + 1) else if m < 12 then (y, m + 1, 1) else (y + 1, 1, 1)

/-- The kinds of event a group can cause, in the order of decoding (R373). -/
def eventOrder (code : Nat) : List EventKind :=
  [.pi, .tp, .pty] ++
    (match code with
     | 0 => [.ta, .ms, .af, .af, .ps]
     | 1 => [.ta, .ms, .ps]
     | 2 => [.ecc, .country]
     | 4 => [.rt]
     | 5 => [.rt]
     | 8 => [.ct]
     | 20 => [.ptyn]
     | _ => [])

end Sys2Proof.Claims

open Sys2Proof Sys2Proof.Machine Sys2Proof.Claims

/-! ### Reset, life cycle -/

/-- What reset leaves, item by item (R401). The values of the configuration, the listeners and the filler are the
spec's own decisions D7, D8 and D23 (log 9, log 10). -/
def Obligations.ResetLeavesSpecValues : Prop :=
  State.reset.pi = none ∧ State.reset.pty = none ∧ State.reset.tp = none ∧ State.reset.ta = none ∧
  State.reset.ms = none ∧ State.reset.ecc = none ∧ State.reset.country = none ∧ State.reset.rtActive = none ∧
  State.reset.ct = none ∧ State.reset.afset = 0#204 ∧ State.reset.life = .live ∧
  (∀ id : BufId, (State.reset.buf id).conf = 0 ∧ (State.reset.buf id).efflen = id.len ∧
    ∀ p, (State.reset.buf id).chrAt p = 0x20#8 ∧ (State.reset.buf id).errAt p = 3#2 ∧
      (State.reset.buf id).pubChrAt p = 0x20#8 ∧ (State.reset.buf id).pubErrAt p = 3#2) ∧
  (∀ k x, State.reset.thr.get k x = 0#2) ∧ (∀ k, State.reset.prog.get k = false) ∧
  (∀ k, State.reset.listen.get k = false)

/-- CREATE gives every item of state its reset value on any instance, destroyed or not, and answers `ok` without
events (R321; decisions D7, D22). The host's own command stream is not state (log 1). -/
def Obligations.CreateResetsEveryItem : Prop :=
  ∀ s : State, exec .create s = .next { State.reset with inbox := s.inbox } ∧
    State.reset.out = { ok := true, value := .nothing, events := [] }

/-- DESTROY ends the life of a live instance and changes nothing else of it (R322; decision D22). -/
def Obligations.DestroyEndsTheLife : Prop :=
  ∀ s : State, s.life = .live →
    exec .destroy s = .next { s with life := .destroyed, out := { ok := true, value := .nothing, events := [] } }

/-- A destroyed instance refuses every instruction but CREATE (93 U3, decision D22; log 5). -/
def Obligations.DestroyedRefusesAllButCreate : Prop :=
  ∀ (i : Instr) (s : State), s.life = .destroyed → i ≠ .create → exec i s = .refused .destroyed

/-- CLEAR, command code 2, makes every decoded value unknown, empties AFSET, blanks the four buffers, keeps THR, PROG,
LISTEN and LIFE, answers `ok`; after it every accessor returns its sentinel (R323). The blank of byte 0x20 and count 3
is decision D8 (R233, log 10), the space of the views decision D9 (R244, log 7), the empty event list decision D22
(R324, log 13); that the host's command stream is kept is the model's choice (log 1). -/
def Obligations.ClearEmptiesTheDecodedState : Prop :=
  decode (.command 2#5 []) = .ok .clear ∧
  ∀ s : State, s.life = .live → ∃ t, exec .clear s = .next t ∧
    t.pi = none ∧ t.pty = none ∧ t.tp = none ∧ t.ta = none ∧ t.ms = none ∧ t.ecc = none ∧ t.country = none ∧
    t.rtActive = none ∧ t.ct = none ∧ (∀ n, afMember t.afset n = false) ∧
    (∀ id : BufId, (t.buf id).conf = 0 ∧ (t.buf id).efflen = id.len ∧
      ∀ p, (t.buf id).chrAt p = 0x20#8 ∧ (t.buf id).errAt p = 3#2 ∧
        (t.buf id).pubChrAt p = 0x20#8 ∧ (t.buf id).pubErrAt p = 3#2) ∧
    t.thr = s.thr ∧ t.prog = s.prog ∧ t.listen = s.listen ∧ t.life = s.life ∧ t.inbox = s.inbox ∧
    t.out = { ok := true, value := .nothing, events := [] } ∧
    exec .getPi t = .next (resultOnly t (.pi none)) ∧ exec .getPty t = .next (resultOnly t (.pty none)) ∧
    exec .getTp t = .next (resultOnly t (.tp none)) ∧ exec .getTa t = .next (resultOnly t (.ta none)) ∧
    exec .getMs t = .next (resultOnly t (.ms none)) ∧ exec .getEcc t = .next (resultOnly t (.ecc none)) ∧
    exec .getCountry t = .next (resultOnly t (.country none)) ∧
    exec .getCt t = .next (resultOnly t (.clock none)) ∧
    exec .getPs t = .next (resultOnly t (.text ⟨List.replicate 8 0x20, List.replicate 8 3#2, 8⟩)) ∧
    exec .getPtyn t = .next (resultOnly t (.text ⟨List.replicate 8 0x20, List.replicate 8 3#2, 8⟩)) ∧
    exec (.getRt 0) t = .next (resultOnly t (.text ⟨List.replicate 64 0x20, List.replicate 64 3#2, 64⟩)) ∧
    exec (.getRt 1) t = .next (resultOnly t (.text ⟨List.replicate 64 0x20, List.replicate 64 3#2, 64⟩))

/-! ### The step -/

/-- A step runs the instruction the first frame of the stream decodes to, on the state without that frame. The stream
is the model's own (log 1). -/
def Obligations.StepRunsTheDecodedInstruction : Prop :=
  ∀ (s : State) (frame : Frame) (rest : List Frame) (i : Instr), s.inbox = frame :: rest → decode frame = .ok i →
    step s = exec i { s with inbox := rest }

/-- With no command waiting a step changes nothing (R384; the model's choice, log 14). -/
def Obligations.IdleStepKeepsEverything : Prop :=
  ∀ s : State, s.inbox = [] → step s = .next s

/-- A frame that is no command, a code 19 to 31 or operands that do not fit, is refused and runs nothing (93 U5;
log 4). -/
def Obligations.IllFormedFramesAreRefused : Prop :=
  ∀ (s : State) (frame : Frame) (rest : List Frame), s.inbox = frame :: rest → frame.wf = false →
    ∃ e, decode frame = .error e ∧ step s = .refused (.badFrame e)

/-- A live instance answers every well-formed command: nothing is fatal, whatever the state and the operands (R360,
R365). -/
def Obligations.LiveInstanceAnswersEveryCommand : Prop :=
  ∀ (s : State), s.ready = true → ∃ t, step s = .next t

/-- No instruction touches the host's command stream (log 1). -/
def Obligations.InstructionsLeaveTheStreamAlone : Prop :=
  ∀ (i : Instr) (s t : State), exec i s = .next t → t.inbox = s.inbox

/-! ### Encoding -/

/-- Every instruction's frame decodes to it: no bit of a format is dropped. -/
def Obligations.DecodeOfEncode : Prop :=
  ∀ i : Instr, decode (encode i) = .ok i

/-- Every well-formed frame is the frame of the instruction it decodes to: each group and command has one meaning. -/
def Obligations.EncodeOfDecode : Prop :=
  ∀ frame : Frame, frame.wf = true → ∃ i, decode frame = .ok i ∧ encode i = frame

/-- The opcode table: a word decodes to the group code `k = 2 * gt + ver` exactly when its bits under the mask
0x0000F80000000000 are `k << 43`. -/
def Obligations.MaskAndMatchSelectTheGroupCode : Prop :=
  ∀ (g : Group) (lv : Levels) (k : Nat), k < 32 →
    (groupCode (decodeGroup g lv) = some k ↔ g &&& 0x0000F80000000000#64 = BitVec.ofNat 64 k <<< 43)

/-- The fields of the formats stand where R91 and R93 to R99 put them in blocks B, C and D. The positions are the
spec's own, from general knowledge (93 G1 to G6; log 12). -/
def Obligations.FieldsStandWhereTheFormatsSay : Prop :=
  ∀ g : Group,
    (headOf g).pi = blockA g ∧ (headOf g).tp = (blockB g).getLsbD 10 ∧ (headOf g).pty = (blockB g).extractLsb' 5 5 ∧
    opcode g = (blockB g).extractLsb' 11 5 ∧
    (fields0A g).ta = (blockB g).getLsbD 4 ∧ (fields0A g).ms = (blockB g).getLsbD 3 ∧
    (fields0A g).addr = (blockB g).extractLsb' 0 2 ∧
    (fields0A g).af1 = (blockC g).extractLsb' 8 8 ∧ (fields0A g).af2 = (blockC g).extractLsb' 0 8 ∧
    (fields0A g).c0 = (blockD g).extractLsb' 8 8 ∧ (fields0A g).c1 = (blockD g).extractLsb' 0 8 ∧
    (fields0B g).ta = (blockB g).getLsbD 4 ∧ (fields0B g).ms = (blockB g).getLsbD 3 ∧
    (fields0B g).addr = (blockB g).extractLsb' 0 2 ∧
    (fields0B g).c0 = (blockD g).extractLsb' 8 8 ∧ (fields0B g).c1 = (blockD g).extractLsb' 0 8 ∧
    (fields1A g).variant = (blockC g).extractLsb' 12 3 ∧ (fields1A g).ecc = (blockC g).extractLsb' 0 8 ∧
    (fields2A g).f = (blockB g).getLsbD 4 ∧ (fields2A g).addr = (blockB g).extractLsb' 0 4 ∧
    (fields2A g).c0 = (blockC g).extractLsb' 8 8 ∧ (fields2A g).c1 = (blockC g).extractLsb' 0 8 ∧
    (fields2A g).c2 = (blockD g).extractLsb' 8 8 ∧ (fields2A g).c3 = (blockD g).extractLsb' 0 8 ∧
    (fields2B g).f = (blockB g).getLsbD 4 ∧ (fields2B g).addr = (blockB g).extractLsb' 0 4 ∧
    (fields2B g).c0 = (blockD g).extractLsb' 8 8 ∧ (fields2B g).c1 = (blockD g).extractLsb' 0 8 ∧
    (fields4A g).mjd = (blockB g).extractLsb' 0 2 ++ (blockC g).extractLsb' 1 15 ∧
    (fields4A g).hour = (blockC g).extractLsb' 0 1 ++ (blockD g).extractLsb' 12 4 ∧
    (fields4A g).minute = (blockD g).extractLsb' 6 6 ∧ (fields4A g).osign = (blockD g).getLsbD 5 ∧
    (fields4A g).omag = (blockD g).extractLsb' 0 5 ∧
    (fields10A g).addr = (blockB g).extractLsb' 0 1 ∧
    (fields10A g).c0 = (blockC g).extractLsb' 8 8 ∧ (fields10A g).c1 = (blockC g).extractLsb' 0 8 ∧
    (fields10A g).c2 = (blockD g).extractLsb' 8 8 ∧ (fields10A g).c3 = (blockD g).extractLsb' 0 8

/-- The worked encodings of R107 and three command frames decode to the instructions they stand for. -/
def Obligations.WorkedEncodingsDecode : Prop :=
  decode (.group 0xA2010148E2107469#64 Levels.zero) =
    .ok (.g0A Levels.zero ⟨0xA201#16, false, 10#5⟩ ⟨false, true, false, 0#2, 0xE2#8, 0x10#8, 0x74#8, 0x69#8⟩) ∧
  decode (.group 0xA2014541D7500182#64 Levels.zero) =
    .ok (.g4A Levels.zero ⟨0xA201#16, true, 10#5⟩ ⟨0#3, 60328#17, 0#5, 6#6, false, 2#5⟩) ∧
  decode (.group 0xA201A14054455354#64 Levels.zero) =
    .ok (.g10A Levels.zero ⟨0xA201#16, false, 10#5⟩ ⟨false, 0#3, 0#1, 0x54#8, 0x45#8, 0x53#8, 0x54#8⟩) ∧
  decode (.group 0xA20121504E455720#64 Levels.zero) =
    .ok (.g2A Levels.zero ⟨0xA201#16, false, 10#5⟩ ⟨true, 0#4, 0x4E#8, 0x45#8, 0x57#8, 0x20#8⟩) ∧
  decode (.command 5#5 [0, 1, 2]) = .ok (.setCorrection 0 1 2) ∧
  decode (.command 16#5 [1]) = .ok (.getRt 1) ∧
  decode (.command 19#5 []) = .error (.notACommand 19#5)

/-! ### Invariants -/

/-- Every step keeps the state well formed: the text memories in canonical form inside their buffers, counters and
effective lengths as R43 says, the clock time in the ranges of R30 and a date of its month (R294). -/
def Obligations.EveryStepKeepsTheStateWellFormed : Prop :=
  ∀ s t : State, s.wf = true → step s = .next t → t.wf = true

/-- Every step keeps together what is unknown together: PI, TP and PTY; TA and MS; COUNTRY while ECC is; ECC and TA
while PI is; and both RT buffers are blank while no toggle has been accepted (R205 case 1). -/
def Obligations.EveryStepKeepsUnknownsTogether : Prop :=
  ∀ s t : State, s.knownTogether = true → step s = .next t → t.knownTogether = true

/-- The reset state has both invariants. -/
def Obligations.ResetStateHasTheInvariants : Prop := State.reset.wf = true ∧ State.reset.knownTogether = true

/-! ### Decoding a group -/

/-- After every successful decode, raw or of a string of 16 hexadecimal digits, PI, TP and PTY hold the group's values
and `ok` is true, whatever the group and the levels (R144). The raw port is decision D3, that a string may have lower-case
digits decision D20 (R143; log 13). -/
def Obligations.EveryDecodeSetsTheCommonRegisters : Prop :=
  (∀ (g : Group) (lv : Levels) (s : State), s.life = .live →
    ∃ t, exec (.decodeRaw g lv) s = .next t ∧ HoldsCommon g t) ∧
  (∀ (chars : List Nat) (s : State), s.life = .live → chars.length = 16 → (∀ ch ∈ chars, isHexDigit ch) →
    ∃ t, exec (.decodeHex chars) s = .next t ∧ HoldsCommon (hexGroup chars) t)

/-- The PTY step of every decode: PTY takes B[9:5], and its event is there exactly when it is listened to and the
register differed, an unknown one included. -/
def Obligations.PtyEventExactlyOnChange : Prop :=
  ∀ (g : Group) (lv : Levels) (s : State), s.life = .live →
    ∃ t, exec (.decodeRaw g lv) s = .next t ∧ t.pty = some ((blockB g).extractLsb' 5 5) ∧
      ∀ v, Event.pty v ∈ t.out.events ↔
        (s.listen.pty = true ∧ s.pty ≠ some ((blockB g).extractLsb' 5 5) ∧ v = (blockB g).extractLsb' 5 5)

/-- DECODE_RAW of a group is the instruction the group is, with its levels (R142 and R148; the raw port is decision
D3, and that a group row is run as a decode of it is log 3). -/
def Obligations.DecodeRawRunsTheGroupInstruction : Prop :=
  ∀ (g : Group) (lv : Levels) (s : State), s.life = .live →
    ∃ t, exec (.decodeRaw g lv) s = .next t ∧ exec (decodeGroup g lv) s = .next t

/-- DECODE_HEX of 16 hexadecimal digits, of either letter case by decision D20, is DECODE_RAW of the number they write
with all levels 0 (R140, R143). -/
def Obligations.HexStringDecodesAsItsNumber : Prop :=
  ∀ (chars : List Nat) (s : State), s.life = .live → chars.length = 16 → (∀ ch ∈ chars, isHexDigit ch) →
    ∃ t, exec (.decodeRaw (hexGroup chars) Levels.zero) s = .next t ∧ exec (.decodeHex chars) s = .next t

/-- DECODE_HEX of anything that is not exactly 16 hexadecimal characters changes no state, emits no event and answers
`ok = false`. -/
def Obligations.MalformedStringChangesNothing : Prop :=
  ∀ (chars : List Nat) (s : State), s.life = .live → (chars.length ≠ 16 ∨ ∃ ch ∈ chars, ¬ isHexDigit ch) →
    exec (.decodeHex chars) s = .next (rejected s)

/-- The 25 groups without a field decoder: PI, TP and PTY take the group's values, nothing else changes, only these
three events can occur, `ok` is true, and the answer is the same for all levels, `spec`, C and D. -/
def Obligations.UnrecognisedGroupsDoTheCommonPartOnly : Prop :=
  ∀ (lv : Levels) (h : Head) (r : Rest) (s : State) (i : Instr), s.life = .live → i ∈ commonOnly lv h r →
    ∃ t, exec i s = .next t ∧ Decoded h t ∧ t = commonFrom t s ∧
      (∀ e ∈ t.out.events, e = .pi h.pi ∨ e = .tp h.tp ∨ e = .pty h.pty) ∧
      ∀ (lv' : Levels) (r' : Rest) (j : Instr), j ∈ commonOnly lv' h r' → exec j s = .next t

/-- The events of the 25 unrecognised groups, in order. The order is the spec's decision D19, that PI comes from block
A only decision D25. -/
def Obligations.CommonEventsInOrder : Prop :=
  ∀ (lv : Levels) (h : Head) (r : Rest) (s : State) (i : Instr), s.life = .live → i ∈ commonOnly lv h r →
    ∃ t, exec i s = .next t ∧ t.out.events = commonEvents h s

/-- TA and MS are written by groups 0A and 0B, with B[4] and B[3], and a group of another type never changes them (R191,
R192). That 0B carries them is decision D15 (R195), the raw port decision D3 (log 13). -/
def Obligations.OnlyGroupZeroWritesTaAndMs : Prop :=
  ∀ (g : Group) (lv : Levels) (s : State), s.life = .live →
    ∃ t, exec (.decodeRaw g lv) s = .next t ∧
      ((blockB g).extractLsb' 12 4 = 0#4 →
        t.ta = some ((blockB g).getLsbD 4) ∧ t.ms = some ((blockB g).getLsbD 3) ∧
        (∀ v, Event.ta v ∈ t.out.events ↔
          (s.listen.ta = true ∧ s.ta ≠ some ((blockB g).getLsbD 4) ∧ v = (blockB g).getLsbD 4)) ∧
        (∀ v, Event.ms v ∈ t.out.events ↔
          (s.listen.ms = true ∧ s.ms ≠ some ((blockB g).getLsbD 3) ∧ v = (blockB g).getLsbD 3))) ∧
      ((blockB g).extractLsb' 12 4 ≠ 0#4 →
        t.ta = s.ta ∧ t.ms = s.ms ∧ ∀ v, Event.ta v ∉ t.out.events ∧ Event.ms v ∉ t.out.events)

/-- Group 0A: the common part, TA, MS, the two AF codes of block C into AFSET, the two characters of block D into PS at
`2 * addr`; nothing else changes. The counter, the gate and the published copy are the spec's decisions D5, D10, D11
and D14. -/
def Obligations.Group0AResult : Prop :=
  ∀ (lv : Levels) (h : Head) (f : Group0A) (s : State), s.life = .live → s.wf = true →
    ∃ t, exec (.g0A lv h f) s = .next t ∧ Decoded h t ∧ t.ta = some f.ta ∧ t.ms = some f.ms ∧
      (∀ n : Byte, afMember t.afset n = true ↔
        (afMember s.afset n = true ∨ (1 ≤ n.toNat ∧ n.toNat ≤ 204 ∧ (n = f.af1 ∨ n = f.af2)))) ∧
      PsOffered lv f.addr f.c0 f.c1 s t ∧
      t = { commonFrom t s with ta := t.ta, ms := t.ms, afset := t.afset, ps := t.ps }

/-- Group 0B: as 0A without the AF codes; block C has no effect (R195; that 0B carries TA and MS is decision D15). -/
def Obligations.Group0BResult : Prop :=
  ∀ (lv : Levels) (h : Head) (f : Group0B) (s : State), s.life = .live → s.wf = true →
    ∃ t, exec (.g0B lv h f) s = .next t ∧ Decoded h t ∧ t.ta = some f.ta ∧ t.ms = some f.ms ∧
      PsOffered lv f.addr f.c0 f.c1 s t ∧
      t = { commonFrom t s with ta := t.ta, ms := t.ms, ps := t.ps }

/-- The events of groups 0A and 0B, in order: common, TA, MS, AF of `hi(C)`, AF of `lo(C)`, PS (R373). The order is
decision D19, the frequencies decision D17, the PS event decision D12. -/
def Obligations.GroupZeroEventsInOrder : Prop :=
  (∀ (lv : Levels) (h : Head) (f : Group0A) (s : State), s.life = .live →
    ∃ t, exec (.g0A lv h f) s = .next t ∧
      t.out.events = commonEvents h s ++ changeEvent s.listen.ta s.ta f.ta (.ta f.ta) ++
        changeEvent s.listen.ms s.ms f.ms (.ms f.ms) ++
        afEvent s.listen.af (afMember s.afset f.af1) f.af1 ++
        afEvent s.listen.af (afMember s.afset f.af2 || f.af2 == f.af1) f.af2 ++
        textEvent s.listen.ps 8 s.ps t.ps .ps) ∧
  (∀ (lv : Levels) (h : Head) (f : Group0B) (s : State), s.life = .live →
    ∃ t, exec (.g0B lv h f) s = .next t ∧
      t.out.events = commonEvents h s ++ changeEvent s.listen.ta s.ta f.ta (.ta f.ta) ++
        changeEvent s.listen.ms s.ms f.ms (.ms f.ms) ++ textEvent s.listen.ps 8 s.ps t.ps .ps)

/-- AFSET only grows between resets, and each frequency is reported at most once (R274): no instruction but CREATE and
CLEAR removes a member, those two empty it, an AF event is the report of a frequency that was not in the set before and
is in it after, a frequency that is not in the set is reported when a group 0A brings it and AF is listened to, and no
command reports a frequency twice, one that brings it in both bytes of block C included (R273, R276 case 5). Which codes
are frequencies and that they stand in block C of 0A is decision D17 (log 13), the frequency of a code general knowledge
(R272, log 12). -/
def Obligations.AfSetOnlyGrows : Prop :=
  (∀ (i : Instr) (s t : State) (n : Byte), exec i s = .next t → i ≠ .create → i ≠ .clear →
    afMember s.afset n = true → afMember t.afset n = true) ∧
  (∀ s : State, s.life = .live → ∃ t, exec .clear s = .next t ∧ ∀ n, afMember t.afset n = false) ∧
  (∀ s : State, ∃ t, exec .create s = .next t ∧ ∀ n, afMember t.afset n = false) ∧
  (∀ (i : Instr) (s t : State) (khz : Nat), exec i s = .next t → Event.af khz ∈ t.out.events →
    ∃ n : Byte, khz = freqKhz n ∧ afMember s.afset n = false ∧ afMember t.afset n = true) ∧
  (∀ (lv : Levels) (h : Head) (f : Group0A) (s : State) (n : Byte), s.life = .live → s.listen.af = true →
    (n = f.af1 ∨ n = f.af2) → isFrequencyCode n = true → afMember s.afset n = false →
    ∃ t, exec (.g0A lv h f) s = .next t ∧ Event.af (freqKhz n) ∈ t.out.events) ∧
  (∀ (i : Instr) (s t : State) (khz : Nat), exec i s = .next t → t.out.events.count (Event.af khz) ≤ 1)

/-- The ECC step of a group 1A with variant 0: ECC takes the low byte of block C, all 256 values of it, and its event
is there exactly when it is listened to and the register differed (R210). That the step runs on group 1A with variant 0
and takes the byte there is decision D16 (R209), the raw port decision D3 (log 13). -/
def Obligations.EccStepWritesAndReports : Prop :=
  ∀ (g : Group) (lv : Levels) (s : State), s.life = .live → (blockB g).extractLsb' 11 5 = 2#5 →
    (blockC g).extractLsb' 12 3 = 0#3 →
    ∃ t, exec (.decodeRaw g lv) s = .next t ∧ t.ecc = some ((blockC g).extractLsb' 0 8) ∧
      ∀ v, Event.ecc v ∈ t.out.events ↔
        (s.listen.ecc = true ∧ s.ecc ≠ some ((blockC g).extractLsb' 0 8) ∧ v = (blockC g).extractLsb' 0 8)

/-- Group 1A: variant 0 takes the ECC, resolves the country from the PI just written and the ECC, and reports both on
change; the other variants do the common part only. The group and the moment are decision D16. -/
def Obligations.Group1AResult : Prop :=
  ∀ (lv : Levels) (h : Head) (f : Group1A) (s : State), s.life = .live →
    ∃ t, exec (.g1A lv h f) s = .next t ∧ Decoded h t ∧
      (f.variant = 0#3 →
        t.ecc = some f.ecc ∧ t.country = Config.countryLookup (h.pi.extractLsb' 12 4) f.ecc ∧
        t.out.events = commonEvents h s ++ changeEvent s.listen.ecc s.ecc f.ecc (.ecc f.ecc) ++
          (if s.listen.country = true ∧ s.country ≠ t.country then [.country t.country] else []) ∧
        t = { commonFrom t s with ecc := t.ecc, country := t.country }) ∧
      (f.variant ≠ 0#3 → t.out.events = commonEvents h s ∧ t = commonFrom t s)

/-- Group 2A: above the INFO gate the text part is dropped whole, the toggle too; below it the flag's buffer becomes
the active one, is blanked if it was not, has effective length 64 and takes block C at `4 * addr` and block D at
`4 * addr + 2`. The other RT buffer and all else is as before (R200, R201; decisions D5, D10 to D14). -/
def Obligations.Group2AResult : Prop :=
  ∀ (lv : Levels) (h : Head) (f : Group2A) (s : State), s.life = .live → s.wf = true →
    ∃ t, exec (.g2A lv h f) s = .next t ∧ Decoded h t ∧
      (s.thr.rtInfo < lv.b → t.out.events = commonEvents h s ∧ t = commonFrom t s) ∧
      (lv.b ≤ s.thr.rtInfo →
        t.rtActive = some f.f ∧
        (∃ mid : TextBuffer,
          SegmentWritten s.prog.rt s.thr.rtData (4 * f.addr.toNat) f.c0 f.c1 lv.c (toggled f.f 64 s) mid ∧
          SegmentWritten s.prog.rt s.thr.rtData (4 * f.addr.toNat + 2) f.c2 f.c3 lv.d mid (t.buf (.rt f.f))) ∧
        t.buf (.rt (!f.f)) = s.buf (.rt (!f.f)) ∧
        t.out.events = commonEvents h s ++
          textEvent s.listen.rt 64 (s.buf (.rt f.f)) (t.buf (.rt f.f)) (.rt f.f) ∧
        t = { commonFrom t s with rtActive := t.rtActive, rt0 := t.rt0, rt1 := t.rt1 })

/-- Group 2B: as 2A with effective length 32 and block D at `2 * addr`; block C has no effect (R203; decisions D5, D10
to D14). -/
def Obligations.Group2BResult : Prop :=
  ∀ (lv : Levels) (h : Head) (f : Group2B) (s : State), s.life = .live → s.wf = true →
    ∃ t, exec (.g2B lv h f) s = .next t ∧ Decoded h t ∧
      (s.thr.rtInfo < lv.b → t.out.events = commonEvents h s ∧ t = commonFrom t s) ∧
      (lv.b ≤ s.thr.rtInfo →
        t.rtActive = some f.f ∧
        SegmentWritten s.prog.rt s.thr.rtData (2 * f.addr.toNat) f.c0 f.c1 lv.d (toggled f.f 32 s)
          (t.buf (.rt f.f)) ∧
        t.buf (.rt (!f.f)) = s.buf (.rt (!f.f)) ∧
        t.out.events = commonEvents h s ++
          textEvent s.listen.rt 64 (s.buf (.rt f.f)) (t.buf (.rt f.f)) (.rt f.f) ∧
        t = { commonFrom t s with rtActive := t.rtActive, rt0 := t.rt0, rt1 := t.rt1 })

/-- Group 10A: block C into PTYN at `4 * addr`, block D at `4 * addr + 2`, under the configuration of kind PS (R215;
decisions D5, D6, D10 to D12, D14); nothing else changes. -/
def Obligations.Group10AResult : Prop :=
  ∀ (lv : Levels) (h : Head) (f : Group10A) (s : State), s.life = .live → s.wf = true →
    ∃ t, exec (.g10A lv h f) s = .next t ∧ Decoded h t ∧
      (s.thr.psInfo < lv.b → t.ptyn = s.ptyn) ∧
      (lv.b ≤ s.thr.psInfo →
        ∃ mid : TextBuffer,
          SegmentWritten s.prog.ps s.thr.psData (4 * f.addr.toNat) f.c0 f.c1 lv.c s.ptyn mid ∧
          SegmentWritten s.prog.ps s.thr.psData (4 * f.addr.toNat + 2) f.c2 f.c3 lv.d mid t.ptyn) ∧
      t.out.events = commonEvents h s ++ textEvent s.listen.ptyn 8 s.ptyn t.ptyn .ptyn ∧
      t = { commonFrom t s with ptyn := t.ptyn }

/-- Group 4A with a valid hour and minute: CT takes the six fields and its event is emitted, changed or not (R296,
R297; the algorithm and the unconditional event are decision D18). Nothing else but the common part changes. -/
def Obligations.ValidClockGroupWritesTheSnapshot : Prop :=
  ∀ (lv : Levels) (h : Head) (f : Group4A) (s : State), s.life = .live → f.hour.toNat ≤ 23 → f.minute.toNat ≤ 59 →
    ∃ t c, exec (.g4A lv h f) s = .next t ∧ Decoded h t ∧ t.ct = some c ∧
      (c.year, c.month, c.day) = civilFromMjd f.mjd.toNat ∧ c.hour = f.hour.toNat ∧ c.minute = f.minute.toNat ∧
      c.offsetHh = (if f.osign then -1 else 1) * (f.omag.toNat : Int) ∧
      t.out.events = commonEvents h s ++ (if s.listen.ct = true then [.ct c] else []) ∧
      t = { commonFrom t s with ct := t.ct }

/-- Group 4A with an hour above 23 or a minute above 59: CT keeps its value, there is no CT event, `ok` is true, and
the PI, TP and PTY steps of the same group have taken effect. -/
def Obligations.InvalidClockGroupLeavesCt : Prop :=
  ∀ (lv : Levels) (h : Head) (f : Group4A) (s : State), s.life = .live → (23 < f.hour.toNat ∨ 59 < f.minute.toNat) →
    ∃ t, exec (.g4A lv h f) s = .next t ∧ Decoded h t ∧ t.ct = s.ct ∧ (∀ c, Event.ct c ∉ t.out.events) ∧
      t = commonFrom t s

/-- `civil_from_mjd` counts the days of the proleptic Gregorian calendar from 1858-11-17: MJD 0 is that day, and the
day of the next MJD is the next day, over the whole 17-bit range. The algorithm is decision D18 (R293, R294). -/
def Obligations.MjdCountsCalendarDays : Prop :=
  civilFromMjd 0 = (1858, 11, 17) ∧
  ∀ mjd : Nat, mjd < 131071 → civilFromMjd (mjd + 1) = nextDay (civilFromMjd mjd)

/-! ### Text -/

/-- The write rule with its tie, under the DATA threshold of the buffer's kind: a position the segment is offered to is
overwritten exactly when the stored count is greater than the incoming level, or the character differs and the level is
within the threshold and not the stored count; otherwise, as in a tie, and at every other position, character and count
stay. -/
def Obligations.WriteRuleWithItsTie : Prop :=
  ∀ (id : BufId) (o : Nat) (c0 c1 : Byte) (i : Level) (s : State), s.wf = true → o + 1 < id.len →
    PositionWritten (s.thr.get id.kind .data) o c0 i (s.buf id) ((writeSegment id o c0 c1 i s).buf id) ∧
    PositionWritten (s.thr.get id.kind .data) (o + 1) c1 i (s.buf id) ((writeSegment id o c0 c1 i s).buf id) ∧
    ((s.buf id).errAt o = i → SameAt o (s.buf id) ((writeSegment id o c0 c1 i s).buf id)) ∧
    ((s.buf id).errAt (o + 1) = i → SameAt (o + 1) (s.buf id) ((writeSegment id o c0 c1 i s).buf id)) ∧
    (∀ p, p ≠ o → p ≠ o + 1 → SameAt p (s.buf id) ((writeSegment id o c0 c1 i s).buf id)) ∧
    (∀ id', id' ≠ id → (writeSegment id o c0 c1 i s).buf id' = s.buf id')

/-- The whole of `write_segment` on a well-formed buffer: the write rule, the confirmation counter and the publication
(R234 to R241). What the counter counts and the published copy are the spec's decisions D10 and D11. -/
def Obligations.SegmentCountsAndPublishes : Prop :=
  ∀ (len : Nat) (prog : Bool) (t : Level) (o : Nat) (c0 c1 : Byte) (i : Level) (b : TextBuffer),
    b.wf len = true → o + 1 < len → SegmentWritten prog t o c0 c1 i b (b.writeSegment prog t o c0 c1 i)

/-- A position with error count 0 can be changed only by a regressing write, of a different character at a level above
0 and within the threshold, or by a buffer reset: CREATE, CLEAR, or the toggle step that makes the buffer active. -/
def Obligations.StableCharacterChangesOnlyByRegressOrReset : Prop :=
  ∀ (i : Instr) (s t : State) (id : BufId) (p : Nat), s.wf = true →
    exec i s = .next t → (s.buf id).errAt p = 0#2 → ¬ SameAt p (s.buf id) (t.buf id) →
      i = .create ∨ i = .clear ∨
      (∃ f, id = .rt f ∧ s.rtActive ≠ some f ∧ t.rtActive = some f) ∨
      (∃ level : Level, 0#2 < level ∧ level ≤ s.thr.get id.kind .data ∧
        (t.buf id).chrAt p ≠ (s.buf id).chrAt p ∧ (t.buf id).errAt p = level)

/-- With DECODE_HEX, every level being 0, a position of PS or PTYN that holds a character at count 0 never changes
again: a text is frozen at constant error level (R417). -/
def Obligations.HexDecodingFreezesNames : Prop :=
  ∀ (chars : List Nat) (s : State) (id : BufId) (p : Nat), s.life = .live → s.wf = true →
    (id = .ps ∨ id = .ptyn) → (s.buf id).errAt p = 0#2 →
    ∃ t, exec (.decodeHex chars) s = .next t ∧ SameAt p (s.buf id) (t.buf id)

/-- The two segments of a PTYN, received without error into a blank PTYN in either order, publish the concatenated
8-character name (R215; the counter is decision D10). -/
def Obligations.PtynSegmentsInEitherOrder : Prop :=
  ∀ (h : Head) (a b : Group10A) (s : State), s.life = .live → s.ptyn = TextBuffer.blank 8 →
    a.addr = 0#1 → b.addr = 1#1 →
    ∀ x y, (x = a ∧ y = b) ∨ (x = b ∧ y = a) →
      ∃ m t, exec (.g10A Levels.zero h x) s = .next m ∧ exec (.g10A Levels.zero h y) m = .next t ∧
        (List.range 8).map t.ptyn.pubChrAt = [a.c0, a.c1, a.c2, a.c3, b.c0, b.c1, b.c2, b.c3] ∧
        (List.range 8).map t.ptyn.pubErrAt = List.replicate 8 0#2

/-! ### Configuration -/

/-- SET_CORRECTION, command code 5, with a kind, an axis and a level 0 to 3 sets that threshold and no other; with any other operand it
is rejected and nothing changes. Kind PS also governs PTYN. -/
def Obligations.SetCorrectionSetsOneThreshold : Prop :=
  (∀ kind axis level, decode (.command 5#5 [kind, axis, level]) = .ok (.setCorrection kind axis level)) ∧
  (BufId.ps.kind = .ps ∧ BufId.ptyn.kind = .ps ∧ ∀ f, (BufId.rt f).kind = .rt) ∧
  ∀ (kind axis level : Nat) (s : State), s.life = .live →
    (∀ k x, kindOfCode kind = some k → axisOfCode axis = some x → level < 4 →
      ∃ t, exec (.setCorrection kind axis level) s = .next t ∧ (t.thr.get k x).toNat = level ∧
        (∀ k' x', ¬ (k' = k ∧ x' = x) → t.thr.get k' x' = s.thr.get k' x') ∧
        t.out = { ok := true, value := .nothing, events := [] } ∧ t = { s with thr := t.thr, out := t.out }) ∧
    (kindOfCode kind = none ∨ axisOfCode axis = none ∨ 3 < level →
      exec (.setCorrection kind axis level) s = .next (rejected s))

/-- SET_PROGRESSIVE, command code 6, with a kind and an enable sets that kind's flag and not the other; with any other operand it is
rejected and nothing changes. Kind RT governs both RT buffers, kind PS governs PS and PTYN. -/
def Obligations.SetProgressiveSetsOneFlag : Prop :=
  (∀ kind enabled, decode (.command 6#5 [kind, enabled]) = .ok (.setProgressive kind enabled)) ∧
  (BufId.ps.kind = .ps ∧ BufId.ptyn.kind = .ps ∧ ∀ f, (BufId.rt f).kind = .rt) ∧
  ∀ (kind enabled : Nat) (s : State), s.life = .live →
    (∀ k, kindOfCode kind = some k → (enabled = 0 ∨ enabled = 1) →
      ∃ t, exec (.setProgressive kind enabled) s = .next t ∧ t.prog.get k = (enabled == 1) ∧
        (∀ k', k' ≠ k → t.prog.get k' = s.prog.get k') ∧
        t.out = { ok := true, value := .nothing, events := [] } ∧ t = { s with prog := t.prog, out := t.out }) ∧
    (kindOfCode kind = none ∨ 1 < enabled → exec (.setProgressive kind enabled) s = .next (rejected s))

/-- SET_LISTENER with an event kind 0 to 11 and an enable sets that bit and no other, and emits and replays nothing;
with any other operand it is rejected (R329; removal is decision D23, the rejection decision D24). -/
def Obligations.SetListenerSetsOneBit : Prop :=
  ∀ (k enabled : Nat) (s : State), s.life = .live →
    (k < 12 → (enabled = 0 ∨ enabled = 1) →
      ∃ e t, eventKindOfCode k = some e ∧ exec (.setListener k enabled) s = .next t ∧
        t.listen.get e = (enabled == 1) ∧ (∀ e', e' ≠ e → t.listen.get e' = s.listen.get e') ∧
        t.out = { ok := true, value := .nothing, events := [] } ∧ t = { s with listen := t.listen, out := t.out }) ∧
    (11 < k ∨ 1 < enabled → exec (.setListener k enabled) s = .next (rejected s))

/-- The operand codes of R109, the spec's own by decisions D2 and D5. -/
def Obligations.OperandCodes : Prop :=
  kindOfCode 0 = some .ps ∧ kindOfCode 1 = some .rt ∧ axisOfCode 0 = some .info ∧ axisOfCode 1 = some .data ∧
  (∀ n, 1 < n → kindOfCode n = none ∧ axisOfCode n = none ∧ bitOfCode n = none) ∧
  bitOfCode 0 = some false ∧ bitOfCode 1 = some true ∧
  (List.range 12).map eventKindOfCode =
    [some .pi, some .pty, some .tp, some .ta, some .ms, some .ecc, some .country, some .af, some .ps, some .rt,
     some .ptyn, some .ct] ∧
  (∀ n, 11 < n → eventKindOfCode n = none)

/-- No setter re-examines state: a setter changes its control register and the command's result, and nothing else,
whatever its operands; a `write_segment` reads the two settings of its buffer's kind when it runs. -/
def Obligations.SettersChangeOnlyTheirRegister : Prop :=
  (∀ (kind axis level : Nat) (s : State), s.life = .live →
    ∃ t, exec (.setCorrection kind axis level) s = .next t ∧ t = { s with thr := t.thr, out := t.out }) ∧
  (∀ (kind enabled : Nat) (s : State), s.life = .live →
    ∃ t, exec (.setProgressive kind enabled) s = .next t ∧ t = { s with prog := t.prog, out := t.out }) ∧
  (∀ (k enabled : Nat) (s : State), s.life = .live →
    ∃ t, exec (.setListener k enabled) s = .next t ∧ t = { s with listen := t.listen, out := t.out }) ∧
  (∀ (id : BufId) (o : Nat) (c0 c1 : Byte) (i : Level) (s : State),
    (writeSegment id o c0 c1 i s).buf id =
      (s.buf id).writeSegment (s.prog.get id.kind) (s.thr.get id.kind .data) o c0 c1 i)

/-! ### Accessors -/

/-- The seven scalar accessors: each has its command code, returns its register, `none` being unknown, and changes
nothing but the command's result. -/
def Obligations.ScalarAccessorsReadTheirRegister : Prop :=
  (decode (.command 8#5 []) = .ok .getPi ∧ decode (.command 9#5 []) = .ok .getPty ∧
   decode (.command 10#5 []) = .ok .getTp ∧ decode (.command 11#5 []) = .ok .getTa ∧
   decode (.command 12#5 []) = .ok .getMs ∧ decode (.command 13#5 []) = .ok .getEcc ∧
   decode (.command 14#5 []) = .ok .getCountry) ∧
  ∀ s : State, s.life = .live →
    exec .getPi s = .next (resultOnly s (.pi s.pi)) ∧ exec .getPty s = .next (resultOnly s (.pty s.pty)) ∧
    exec .getTp s = .next (resultOnly s (.tp s.tp)) ∧ exec .getTa s = .next (resultOnly s (.ta s.ta)) ∧
    exec .getMs s = .next (resultOnly s (.ms s.ms)) ∧ exec .getEcc s = .next (resultOnly s (.ecc s.ecc)) ∧
    exec .getCountry s = .next (resultOnly s (.country s.country))

/-- GET_PS and GET_PTYN return the view of the published copy of their buffer, 8 code points through CHARMAP, 8 error
counts, length 8, and change nothing. -/
def Obligations.NameAccessorsViewThePublishedCopy : Prop :=
  (decode (.command 15#5 []) = .ok .getPs ∧ decode (.command 17#5 []) = .ok .getPtyn) ∧
  ∀ s : State, s.life = .live →
    ∃ v w, exec .getPs s = .next (resultOnly s (.text v)) ∧ IsViewOf 8 s.ps v ∧
      exec .getPtyn s = .next (resultOnly s (.text w)) ∧ IsViewOf 8 s.ptyn w

/-- GET_RT returns the view of the buffer its flag names, 64 positions whatever the effective length and the active
buffer; a flag that is not 0 or 1 is rejected (R339; decisions D11 and D24). -/
def Obligations.GetRtViewsTheNamedBuffer : Prop :=
  ∀ (flag : Nat) (s : State), s.life = .live →
    ((flag = 0 ∨ flag = 1) →
      ∃ v, exec (.getRt flag) s = .next (resultOnly s (.text v)) ∧ IsViewOf 64 (s.buf (.rt (flag == 1))) v) ∧
    (1 < flag → exec (.getRt flag) s = .next (rejected s))

/-- GET_CT returns absent, or the stored fields with the offset in minutes, and changes nothing. -/
def Obligations.GetCtReportsMinutes : Prop :=
  decode (.command 18#5 []) = .ok .getCt ∧
  ∀ s : State, s.life = .live →
    (s.ct = none → exec .getCt s = .next (resultOnly s (.clock none))) ∧
    (∀ c, s.ct = some c → ∃ r, exec .getCt s = .next (resultOnly s (.clock (some r))) ∧
      r.year = c.year ∧ r.month = c.month ∧ r.day = c.day ∧ r.hour = c.hour ∧ r.minute = c.minute ∧
      r.offsetMinutes = 30 * c.offsetHh ∧
      (c.valid = true → -930 ≤ r.offsetMinutes ∧ r.offsetMinutes ≤ 930 ∧ r.offsetMinutes % 30 = 0))

/-! ### Whole-machine rules -/

/-- Which groups write which registers, over every instruction that carries a group, and that no other instruction but
CREATE and CLEAR writes a decoded value or a buffer (10_state R22 to R31 and R40 to R42; the group of the ECC is
decision D16, that 0B writes TA and MS decision D15). -/
def Obligations.RegistersAreWrittenOnlyByTheirGroups : Prop :=
  ∀ (i : Instr) (s t : State), exec i s = .next t →
    (∀ g, groupOf i = some g →
      ((opcode g).toNat ≠ 0 → t.afset = s.afset) ∧
      ((opcode g).toNat ≠ 0 → (opcode g).toNat ≠ 1 → t.ta = s.ta ∧ t.ms = s.ms ∧ t.ps = s.ps) ∧
      (¬ ((opcode g).toNat = 2 ∧ (blockC g).extractLsb' 12 3 = 0#3) → t.ecc = s.ecc ∧ t.country = s.country) ∧
      ((opcode g).toNat ≠ 4 → (opcode g).toNat ≠ 5 → t.rtActive = s.rtActive ∧ t.rt0 = s.rt0 ∧ t.rt1 = s.rt1) ∧
      ((opcode g).toNat ≠ 8 → t.ct = s.ct) ∧ ((opcode g).toNat ≠ 20 → t.ptyn = s.ptyn)) ∧
    (groupOf i = none → i ≠ .create → i ≠ .clear →
      t = { s with thr := t.thr, prog := t.prog, listen := t.listen, life := t.life, out := t.out })

/-- Only SET_CORRECTION, SET_PROGRESSIVE, SET_LISTENER, DESTROY and CREATE write the control registers, each its own
(R34 to R37, R402). -/
def Obligations.ControlRegistersAreWrittenOnlyByTheirCommand : Prop :=
  ∀ (i : Instr) (s t : State), exec i s = .next t → i ≠ .create →
    ((∀ kind axis level, i ≠ .setCorrection kind axis level) → t.thr = s.thr) ∧
    ((∀ kind enabled, i ≠ .setProgressive kind enabled) → t.prog = s.prog) ∧
    ((∀ k enabled, i ≠ .setListener k enabled) → t.listen = s.listen) ∧
    (i ≠ .destroy → t.life = s.life)

/-- An event is in a command's list only if its listener was enabled, and only a decode has events (R14, R15, R372). -/
def Obligations.EventsNeedTheirListenerAndADecode : Prop :=
  ∀ (i : Instr) (s t : State), exec i s = .next t →
    (∀ e ∈ t.out.events, s.listen.get e.kind = true) ∧ (groupOf i = none → t.out.events = [])

/-- The events of a decode come in the order of decoding, each at most as often as its place (R373; the order is
decision D19): their kinds are a subsequence of the group code's list. -/
def Obligations.EventsComeInDecodingOrder : Prop :=
  ∀ (g : Group) (lv : Levels) (s t : State), exec (.decodeRaw g lv) s = .next t →
    (t.out.events.map Event.kind).Sublist (eventOrder (opcode g).toNat)

/-- What a command does to the state does not depend on the listeners: from a state with other listeners it answers
too, and the two next states differ in nothing but listeners and result (R372). -/
def Obligations.ListenersNeverChangeTheState : Prop :=
  ∀ (i : Instr) (s t : State) (l : Listeners) (r : Result), exec i s = .next t →
    ∃ t', exec i { s with listen := l, out := r } = .next t' ∧ { t' with listen := t.listen, out := t.out } = t

/-- The block error levels reach the text buffers and the toggle only: decodes of one group with different levels leave
the same PI, TP, PTY, TA, MS, ECC, COUNTRY, AFSET and CT, and the level of block A has no effect at all (R149; decision
D4). -/
def Obligations.LevelsReachTextOnly : Prop :=
  ∀ (g : Group) (lv lv' : Levels) (s : State), s.life = .live →
    ∃ t t', exec (.decodeRaw g lv) s = .next t ∧ exec (.decodeRaw g lv') s = .next t' ∧
      t'.pi = t.pi ∧ t'.tp = t.tp ∧ t'.pty = t.pty ∧ t'.ta = t.ta ∧ t'.ms = t.ms ∧ t'.ecc = t.ecc ∧
      t'.country = t.country ∧ t'.afset = t.afset ∧ t'.ct = t.ct ∧
      exec (.decodeRaw g { lv with a := lv'.a }) s = .next t

/-- A rejected command leaves the state exactly as it was, but for its own result, and only DECODE_HEX, the setters and
GET_RT can be rejected (R361, R362, R367; that SET_LISTENER and GET_RT can is decision D24). -/
def Obligations.RejectedCommandsChangeNothing : Prop :=
  ∀ (i : Instr) (s t : State), exec i s = .next t → t.out.ok = false →
    t = rejected s ∧
    ((∃ chars, i = .decodeHex chars) ∨ (∃ kind axis level, i = .setCorrection kind axis level) ∨
      (∃ kind enabled, i = .setProgressive kind enabled) ∨ (∃ k enabled, i = .setListener k enabled) ∨
      (∃ flag, i = .getRt flag))
end

