-- ==== Sys2Proof/Laws/Memory.lean ====
section
/-!
SUPPORT. The laws of the sparse memory: read after write, the canonical form is kept by every operation and held by
the reset state, and two memories in canonical form that read alike are equal.
-/

namespace Sys2Proof.Machine

section
variable {α : Type} [DecidableEq α] {blank : α} {limit : Nat}

/-- What canonical form says of a list with a first entry. -/
theorem sparseWf_cons {lo q : Nat} {w : α} {m : List (Nat × α)} :
    sparseWf blank limit lo ((q, w) :: m) = true ↔
      lo ≤ q ∧ q < limit ∧ w ≠ blank ∧ sparseWf blank limit (q + 1) m = true := by
  simp [sparseWf, and_assoc]

/-- Below the first position of a canonical memory every read is blank. -/
theorem sparseRead_below {lo p : Nat} {m : List (Nat × α)} (h : sparseWf blank limit lo m = true) (hp : p < lo) :
    sparseRead blank m p = blank := by
  induction m generalizing lo with
  | nil => rfl
  | cons e m ih =>
    obtain ⟨q, w⟩ := e
    obtain ⟨hq, _, _, hm⟩ := sparseWf_cons.1 h
    simp only [sparseRead]
    rw [if_neg (by omega)]
    exact ih hm (by omega)

/-- Canonical form from a later position is canonical form from an earlier one. -/
theorem sparseWf_mono {lo lo' : Nat} {m : List (Nat × α)} (hlo : lo' ≤ lo)
    (h : sparseWf blank limit lo m = true) : sparseWf blank limit lo' m = true := by
  cases m with
  | nil => rfl
  | cons e m =>
    obtain ⟨q, w⟩ := e
    obtain ⟨hq, hl, hw, hm⟩ := sparseWf_cons.1 h
    exact sparseWf_cons.2 ⟨by omega, hl, hw, hm⟩

/-- A read of the position written gives the value written. -/
theorem sparseRead_write_same {lo p : Nat} {v : α} {m : List (Nat × α)} (h : sparseWf blank limit lo m = true) :
    sparseRead blank (sparseWrite blank m p v) p = v := by
  induction m generalizing lo with
  | nil =>
    by_cases hv : v = blank
    · simp [sparseWrite, sparseRead, hv]
    · simp [sparseWrite, sparseRead, hv]
  | cons e m ih =>
    obtain ⟨q, w⟩ := e
    obtain ⟨hq, hl, hw, hm⟩ := sparseWf_cons.1 h
    simp only [sparseWrite]
    split
    · rename_i hpq
      split
      · rename_i hv
        have hcons : sparseWf blank limit q ((q, w) :: m) = true := sparseWf_cons.2 ⟨le_refl q, hl, hw, hm⟩
        rw [sparseRead_below hcons hpq, hv]
      · simp [sparseRead]
    · split
      · rename_i hpq
        split
        · rename_i hv
          rw [sparseRead_below hm (by omega), hv]
        · simp [sparseRead]
      · rename_i hpq
        simp only [sparseRead]
        rw [if_neg hpq]
        exact ih hm

/-- A write leaves every other position alone. -/
theorem sparseRead_write_other {p q : Nat} {v : α} {m : List (Nat × α)} (hne : q ≠ p) :
    sparseRead blank (sparseWrite blank m p v) q = sparseRead blank m q := by
  induction m with
  | nil =>
    by_cases hv : v = blank
    · simp [sparseWrite, sparseRead, hv]
    · simp [sparseWrite, sparseRead, hv, hne]
  | cons e m ih =>
    obtain ⟨r, w⟩ := e
    simp only [sparseWrite]
    split
    · split
      · rfl
      · simp [sparseRead, hne]
    · split
      · rename_i hpr
        subst hpr
        split
        · simp [sparseRead, hne]
        · simp [sparseRead, hne]
      · simp only [sparseRead, ih]

/-- A write inside the buffer keeps the canonical form. -/
theorem sparseWf_write {lo p : Nat} {v : α} {m : List (Nat × α)} (h : sparseWf blank limit lo m = true)
    (hlo : lo ≤ p) (hp : p < limit) : sparseWf blank limit lo (sparseWrite blank m p v) = true := by
  induction m generalizing lo with
  | nil =>
    simp only [sparseWrite]
    split
    · rfl
    · rename_i hv
      exact sparseWf_cons.2 ⟨hlo, hp, hv, rfl⟩
  | cons e m ih =>
    obtain ⟨q, w⟩ := e
    obtain ⟨hq, hl, hw, hm⟩ := sparseWf_cons.1 h
    simp only [sparseWrite]
    split
    · rename_i hpq
      split
      · exact h
      · rename_i hv
        exact sparseWf_cons.2 ⟨hlo, hp, hv, sparseWf_cons.2 ⟨by omega, hl, hw, hm⟩⟩
    · split
      · rename_i hpq
        subst hpq
        split
        · exact sparseWf_mono (by omega) hm
        · rename_i hv
          exact sparseWf_cons.2 ⟨hlo, hp, hv, hm⟩
      · exact sparseWf_cons.2 ⟨hq, hl, hw, ih hm (by omega)⟩

/-- Two canonical memories that read alike are the same list. -/
theorem sparseWf_ext {lo : Nat} {m m' : List (Nat × α)} (h : sparseWf blank limit lo m = true)
    (h' : sparseWf blank limit lo m' = true) (heq : ∀ p, sparseRead blank m p = sparseRead blank m' p) :
    m = m' := by
  induction m generalizing lo m' with
  | nil =>
    cases m' with
    | nil => rfl
    | cons e' m' =>
      obtain ⟨q', w'⟩ := e'
      obtain ⟨_, _, hw', _⟩ := sparseWf_cons.1 h'
      have := heq q'
      simp [sparseRead] at this
      exact absurd this.symm hw'
  | cons e m ih =>
    obtain ⟨q, w⟩ := e
    obtain ⟨hq, hl, hw, hm⟩ := sparseWf_cons.1 h
    cases m' with
    | nil =>
      have := heq q
      simp [sparseRead] at this
      exact absurd this hw
    | cons e' m' =>
      obtain ⟨q', w'⟩ := e'
      obtain ⟨hq', hl', hw', hm'⟩ := sparseWf_cons.1 h'
      have hqq : q = q' := by
        rcases Nat.lt_trichotomy q q' with hlt | heq' | hgt
        · have h1 := heq q
          have hb : sparseRead blank ((q', w') :: m') q = blank :=
            sparseRead_below (lo := q') (sparseWf_cons.2 ⟨le_refl _, hl', hw', hm'⟩) hlt
          rw [hb] at h1
          simp [sparseRead] at h1
          exact absurd h1 hw
        · exact heq'
        · have h1 := heq q'
          have hb : sparseRead blank ((q, w) :: m) q' = blank :=
            sparseRead_below (lo := q) (sparseWf_cons.2 ⟨le_refl _, hl, hw, hm⟩) hgt
          rw [hb] at h1
          simp [sparseRead] at h1
          exact absurd h1.symm hw'
      subst hqq
      have hww : w = w' := by
        have h1 := heq q
        simpa [sparseRead] using h1
      subst hww
      have htail : m = m' := by
        refine ih hm hm' fun p => ?_
        by_cases hp : p = q
        · subst hp
          rw [sparseRead_below hm (by omega), sparseRead_below hm' (by omega)]
        · have h1 := heq p
          simpa [sparseRead, hp] using h1
      rw [htail]

end

/-! ### Text buffers -/

/-- What it is for a buffer to be well formed. -/
theorem textBuffer_wf_iff {len : Nat} {b : TextBuffer} :
    b.wf len = true ↔ b.chr.wf len = true ∧ b.err.wf len = true ∧ b.pubChr.wf len = true ∧
      b.pubErr.wf len = true ∧ b.conf ≤ Config.confMax := by
  simp [TextBuffer.wf, and_assoc]

/-- The blank buffer is well formed. -/
theorem blank_wf (len : Nat) : (TextBuffer.blank len).wf len = true := by
  simp [TextBuffer.wf, TextBuffer.blank, Memory.wf, ErrMemory.wf, sparseWf]

/-- `MemWrite` inside the buffer keeps it well formed. -/
theorem memWrite_wf {len p : Nat} {c : Byte} {e : Level} {b : TextBuffer} (h : b.wf len = true) (hp : p < len) :
    (b.memWrite p c e).wf len = true := by
  obtain ⟨h1, h2, h3, h4, h5⟩ := textBuffer_wf_iff.1 h
  exact textBuffer_wf_iff.2 ⟨sparseWf_write h1 (Nat.zero_le _) hp, sparseWf_write h2 (Nat.zero_le _) hp, h3, h4, h5⟩

/-- Publication keeps a buffer well formed. -/
theorem publish_wf {len : Nat} {b : TextBuffer} (h : b.wf len = true) : b.publish.wf len = true := by
  obtain ⟨h1, h2, _, _, h5⟩ := textBuffer_wf_iff.1 h
  exact textBuffer_wf_iff.2 ⟨h1, h2, h1, h2, h5⟩

/-- The effective length has no part in the canonical form. -/
theorem efflen_wf {len n : Nat} {b : TextBuffer} (h : b.wf len = true) : ({ b with efflen := n }).wf len = true := h

/-- The confirmation counter stays at most 64. -/
theorem nextConf_le {t i : Level} {r : Bool} {conf : Nat} (h : conf ≤ Config.confMax) :
    nextConf t i r conf ≤ Config.confMax := by
  unfold nextConf
  split
  · exact Nat.zero_le _
  · split
    · exact Nat.min_le_right _ _
    · exact h

/-- The memories of the reset state are in canonical form. -/
theorem reset_memories_wf (id : BufId) : (State.reset.buf id).wf id.len = true := by
  cases id with
  | rt f => cases f <;> exact blank_wf _
  | _ => exact blank_wf _

/-! ### Reads of the working copy -/

@[simp] theorem memWrite_conf (p : Nat) (c : Byte) (e : Level) (b : TextBuffer) : (b.memWrite p c e).conf = b.conf := rfl
@[simp] theorem memWrite_efflen (p : Nat) (c : Byte) (e : Level) (b : TextBuffer) :
    (b.memWrite p c e).efflen = b.efflen := rfl
@[simp] theorem memWrite_pubChr (p : Nat) (c : Byte) (e : Level) (b : TextBuffer) :
    (b.memWrite p c e).pubChr = b.pubChr := rfl
@[simp] theorem memWrite_pubErr (p : Nat) (c : Byte) (e : Level) (b : TextBuffer) :
    (b.memWrite p c e).pubErr = b.pubErr := rfl
@[simp] theorem publish_conf (b : TextBuffer) : b.publish.conf = b.conf := rfl
@[simp] theorem publish_efflen (b : TextBuffer) : b.publish.efflen = b.efflen := rfl
@[simp] theorem publish_chrAt (b : TextBuffer) (p : Nat) : b.publish.chrAt p = b.chrAt p := rfl
@[simp] theorem publish_errAt (b : TextBuffer) (p : Nat) : b.publish.errAt p = b.errAt p := rfl
@[simp] theorem publish_pubChrAt (b : TextBuffer) (p : Nat) : b.publish.pubChrAt p = b.chrAt p := rfl
@[simp] theorem publish_pubErrAt (b : TextBuffer) (p : Nat) : b.publish.pubErrAt p = b.errAt p := rfl

theorem memWrite_chrAt_same {len p : Nat} {c : Byte} {e : Level} {b : TextBuffer} (h : b.wf len = true) :
    (b.memWrite p c e).chrAt p = c := sparseRead_write_same (textBuffer_wf_iff.1 h).1
theorem memWrite_errAt_same {len p : Nat} {c : Byte} {e : Level} {b : TextBuffer} (h : b.wf len = true) :
    (b.memWrite p c e).errAt p = e := sparseRead_write_same (textBuffer_wf_iff.1 h).2.1
theorem memWrite_chrAt_other {p q : Nat} {c : Byte} {e : Level} {b : TextBuffer} (hne : q ≠ p) :
    (b.memWrite p c e).chrAt q = b.chrAt q := sparseRead_write_other hne
theorem memWrite_errAt_other {p q : Nat} {c : Byte} {e : Level} {b : TextBuffer} (hne : q ≠ p) :
    (b.memWrite p c e).errAt q = b.errAt q := sparseRead_write_other hne
@[simp] theorem blank_chrAt (len p : Nat) : (TextBuffer.blank len).chrAt p = Config.filler := rfl
@[simp] theorem blank_errAt (len p : Nat) : (TextBuffer.blank len).errAt p = Config.errMax := rfl
@[simp] theorem blank_pubChrAt (len p : Nat) : (TextBuffer.blank len).pubChrAt p = Config.filler := rfl
@[simp] theorem blank_pubErrAt (len p : Nat) : (TextBuffer.blank len).pubErrAt p = Config.errMax := rfl

end Sys2Proof.Machine
end

