-- ==== Sys2Proof/Laws/State.lean ====
section
/-!
SUPPORT. One lemma for each field and each update of the state, so that no later proof unfolds an update.
-/

namespace Sys2Proof.Machine

/-! ### The result -/

@[simp] theorem finish_pi (r : Result) (s : State) : (s.finish r).pi = s.pi := rfl
@[simp] theorem finish_pty (r : Result) (s : State) : (s.finish r).pty = s.pty := rfl
@[simp] theorem finish_tp (r : Result) (s : State) : (s.finish r).tp = s.tp := rfl
@[simp] theorem finish_ta (r : Result) (s : State) : (s.finish r).ta = s.ta := rfl
@[simp] theorem finish_ms (r : Result) (s : State) : (s.finish r).ms = s.ms := rfl
@[simp] theorem finish_ecc (r : Result) (s : State) : (s.finish r).ecc = s.ecc := rfl
@[simp] theorem finish_country (r : Result) (s : State) : (s.finish r).country = s.country := rfl
@[simp] theorem finish_afset (r : Result) (s : State) : (s.finish r).afset = s.afset := rfl
@[simp] theorem finish_ct (r : Result) (s : State) : (s.finish r).ct = s.ct := rfl
@[simp] theorem finish_rtActive (r : Result) (s : State) : (s.finish r).rtActive = s.rtActive := rfl
@[simp] theorem finish_ps (r : Result) (s : State) : (s.finish r).ps = s.ps := rfl
@[simp] theorem finish_rt0 (r : Result) (s : State) : (s.finish r).rt0 = s.rt0 := rfl
@[simp] theorem finish_rt1 (r : Result) (s : State) : (s.finish r).rt1 = s.rt1 := rfl
@[simp] theorem finish_ptyn (r : Result) (s : State) : (s.finish r).ptyn = s.ptyn := rfl
@[simp] theorem finish_thr (r : Result) (s : State) : (s.finish r).thr = s.thr := rfl
@[simp] theorem finish_prog (r : Result) (s : State) : (s.finish r).prog = s.prog := rfl
@[simp] theorem finish_listen (r : Result) (s : State) : (s.finish r).listen = s.listen := rfl
@[simp] theorem finish_life (r : Result) (s : State) : (s.finish r).life = s.life := rfl
@[simp] theorem finish_inbox (r : Result) (s : State) : (s.finish r).inbox = s.inbox := rfl
@[simp] theorem finish_out (r : Result) (s : State) : (s.finish r).out = r := rfl
@[simp] theorem finish_buf (r : Result) (s : State) (id : BufId) : (s.finish r).buf id = s.buf id := by
  cases id with
  | rt f => cases f <;> rfl
  | _ => rfl

@[simp] theorem begin_pi (s : State) : s.begin.pi = s.pi := rfl
@[simp] theorem begin_pty (s : State) : s.begin.pty = s.pty := rfl
@[simp] theorem begin_tp (s : State) : s.begin.tp = s.tp := rfl
@[simp] theorem begin_ta (s : State) : s.begin.ta = s.ta := rfl
@[simp] theorem begin_ms (s : State) : s.begin.ms = s.ms := rfl
@[simp] theorem begin_ecc (s : State) : s.begin.ecc = s.ecc := rfl
@[simp] theorem begin_country (s : State) : s.begin.country = s.country := rfl
@[simp] theorem begin_afset (s : State) : s.begin.afset = s.afset := rfl
@[simp] theorem begin_ct (s : State) : s.begin.ct = s.ct := rfl
@[simp] theorem begin_rtActive (s : State) : s.begin.rtActive = s.rtActive := rfl
@[simp] theorem begin_ps (s : State) : s.begin.ps = s.ps := rfl
@[simp] theorem begin_rt0 (s : State) : s.begin.rt0 = s.rt0 := rfl
@[simp] theorem begin_rt1 (s : State) : s.begin.rt1 = s.rt1 := rfl
@[simp] theorem begin_ptyn (s : State) : s.begin.ptyn = s.ptyn := rfl
@[simp] theorem begin_thr (s : State) : s.begin.thr = s.thr := rfl
@[simp] theorem begin_prog (s : State) : s.begin.prog = s.prog := rfl
@[simp] theorem begin_listen (s : State) : s.begin.listen = s.listen := rfl
@[simp] theorem begin_life (s : State) : s.begin.life = s.life := rfl
@[simp] theorem begin_inbox (s : State) : s.begin.inbox = s.inbox := rfl
@[simp] theorem begin_out (s : State) : s.begin.out = Result.okay := rfl
@[simp] theorem begin_buf (s : State) (id : BufId) : s.begin.buf id = s.buf id := finish_buf _ _ _

/-! ### Events -/

@[simp] theorem emitWhen_pi (c : Bool) (e : Event) (s : State) : (s.emitWhen c e).pi = s.pi := rfl
@[simp] theorem emitWhen_pty (c : Bool) (e : Event) (s : State) : (s.emitWhen c e).pty = s.pty := rfl
@[simp] theorem emitWhen_tp (c : Bool) (e : Event) (s : State) : (s.emitWhen c e).tp = s.tp := rfl
@[simp] theorem emitWhen_ta (c : Bool) (e : Event) (s : State) : (s.emitWhen c e).ta = s.ta := rfl
@[simp] theorem emitWhen_ms (c : Bool) (e : Event) (s : State) : (s.emitWhen c e).ms = s.ms := rfl
@[simp] theorem emitWhen_ecc (c : Bool) (e : Event) (s : State) : (s.emitWhen c e).ecc = s.ecc := rfl
@[simp] theorem emitWhen_country (c : Bool) (e : Event) (s : State) : (s.emitWhen c e).country = s.country := rfl
@[simp] theorem emitWhen_afset (c : Bool) (e : Event) (s : State) : (s.emitWhen c e).afset = s.afset := rfl
@[simp] theorem emitWhen_ct (c : Bool) (e : Event) (s : State) : (s.emitWhen c e).ct = s.ct := rfl
@[simp] theorem emitWhen_rtActive (c : Bool) (e : Event) (s : State) : (s.emitWhen c e).rtActive = s.rtActive := rfl
@[simp] theorem emitWhen_ps (c : Bool) (e : Event) (s : State) : (s.emitWhen c e).ps = s.ps := rfl
@[simp] theorem emitWhen_rt0 (c : Bool) (e : Event) (s : State) : (s.emitWhen c e).rt0 = s.rt0 := rfl
@[simp] theorem emitWhen_rt1 (c : Bool) (e : Event) (s : State) : (s.emitWhen c e).rt1 = s.rt1 := rfl
@[simp] theorem emitWhen_ptyn (c : Bool) (e : Event) (s : State) : (s.emitWhen c e).ptyn = s.ptyn := rfl
@[simp] theorem emitWhen_thr (c : Bool) (e : Event) (s : State) : (s.emitWhen c e).thr = s.thr := rfl
@[simp] theorem emitWhen_prog (c : Bool) (e : Event) (s : State) : (s.emitWhen c e).prog = s.prog := rfl
@[simp] theorem emitWhen_listen (c : Bool) (e : Event) (s : State) : (s.emitWhen c e).listen = s.listen := rfl
@[simp] theorem emitWhen_life (c : Bool) (e : Event) (s : State) : (s.emitWhen c e).life = s.life := rfl
@[simp] theorem emitWhen_inbox (c : Bool) (e : Event) (s : State) : (s.emitWhen c e).inbox = s.inbox := rfl
@[simp] theorem emitWhen_buf (c : Bool) (e : Event) (s : State) (id : BufId) : (s.emitWhen c e).buf id = s.buf id := by
  cases id with
  | rt f => cases f <;> rfl
  | _ => rfl
@[simp] theorem emitWhen_ok (c : Bool) (e : Event) (s : State) : (s.emitWhen c e).out.ok = s.out.ok := rfl
@[simp] theorem emitWhen_value (c : Bool) (e : Event) (s : State) : (s.emitWhen c e).out.value = s.out.value := rfl
theorem emitWhen_events (c : Bool) (e : Event) (s : State) :
    (s.emitWhen c e).out.events = s.out.events ++ (if c && s.listen.get e.kind then [e] else []) := rfl
theorem emit_eq (e : Event) (s : State) : s.emit e = s.emitWhen true e := rfl
@[simp] theorem emit_pi (e : Event) (s : State) : (s.emit e).pi = s.pi := rfl
@[simp] theorem emit_pty (e : Event) (s : State) : (s.emit e).pty = s.pty := rfl
@[simp] theorem emit_tp (e : Event) (s : State) : (s.emit e).tp = s.tp := rfl
@[simp] theorem emit_ta (e : Event) (s : State) : (s.emit e).ta = s.ta := rfl
@[simp] theorem emit_ms (e : Event) (s : State) : (s.emit e).ms = s.ms := rfl
@[simp] theorem emit_ecc (e : Event) (s : State) : (s.emit e).ecc = s.ecc := rfl
@[simp] theorem emit_country (e : Event) (s : State) : (s.emit e).country = s.country := rfl
@[simp] theorem emit_afset (e : Event) (s : State) : (s.emit e).afset = s.afset := rfl
@[simp] theorem emit_ct (e : Event) (s : State) : (s.emit e).ct = s.ct := rfl
@[simp] theorem emit_rtActive (e : Event) (s : State) : (s.emit e).rtActive = s.rtActive := rfl
@[simp] theorem emit_ps (e : Event) (s : State) : (s.emit e).ps = s.ps := rfl
@[simp] theorem emit_rt0 (e : Event) (s : State) : (s.emit e).rt0 = s.rt0 := rfl
@[simp] theorem emit_rt1 (e : Event) (s : State) : (s.emit e).rt1 = s.rt1 := rfl
@[simp] theorem emit_ptyn (e : Event) (s : State) : (s.emit e).ptyn = s.ptyn := rfl
@[simp] theorem emit_thr (e : Event) (s : State) : (s.emit e).thr = s.thr := rfl
@[simp] theorem emit_prog (e : Event) (s : State) : (s.emit e).prog = s.prog := rfl
@[simp] theorem emit_listen (e : Event) (s : State) : (s.emit e).listen = s.listen := rfl
@[simp] theorem emit_life (e : Event) (s : State) : (s.emit e).life = s.life := rfl
@[simp] theorem emit_inbox (e : Event) (s : State) : (s.emit e).inbox = s.inbox := rfl
@[simp] theorem emit_ok (e : Event) (s : State) : (s.emit e).out.ok = s.out.ok := rfl

/-! ### Buffers -/

@[simp] theorem setBuf_pi (id : BufId) (b : TextBuffer) (s : State) : (s.setBuf id b).pi = s.pi := by
  cases id with
  | rt f => cases f <;> rfl
  | _ => rfl
@[simp] theorem setBuf_pty (id : BufId) (b : TextBuffer) (s : State) : (s.setBuf id b).pty = s.pty := by
  cases id with
  | rt f => cases f <;> rfl
  | _ => rfl
@[simp] theorem setBuf_tp (id : BufId) (b : TextBuffer) (s : State) : (s.setBuf id b).tp = s.tp := by
  cases id with
  | rt f => cases f <;> rfl
  | _ => rfl
@[simp] theorem setBuf_ta (id : BufId) (b : TextBuffer) (s : State) : (s.setBuf id b).ta = s.ta := by
  cases id with
  | rt f => cases f <;> rfl
  | _ => rfl
@[simp] theorem setBuf_ms (id : BufId) (b : TextBuffer) (s : State) : (s.setBuf id b).ms = s.ms := by
  cases id with
  | rt f => cases f <;> rfl
  | _ => rfl
@[simp] theorem setBuf_ecc (id : BufId) (b : TextBuffer) (s : State) : (s.setBuf id b).ecc = s.ecc := by
  cases id with
  | rt f => cases f <;> rfl
  | _ => rfl
@[simp] theorem setBuf_country (id : BufId) (b : TextBuffer) (s : State) : (s.setBuf id b).country = s.country := by
  cases id with
  | rt f => cases f <;> rfl
  | _ => rfl
@[simp] theorem setBuf_afset (id : BufId) (b : TextBuffer) (s : State) : (s.setBuf id b).afset = s.afset := by
  cases id with
  | rt f => cases f <;> rfl
  | _ => rfl
@[simp] theorem setBuf_ct (id : BufId) (b : TextBuffer) (s : State) : (s.setBuf id b).ct = s.ct := by
  cases id with
  | rt f => cases f <;> rfl
  | _ => rfl
@[simp] theorem setBuf_rtActive (id : BufId) (b : TextBuffer) (s : State) : (s.setBuf id b).rtActive = s.rtActive := by
  cases id with
  | rt f => cases f <;> rfl
  | _ => rfl
@[simp] theorem setBuf_thr (id : BufId) (b : TextBuffer) (s : State) : (s.setBuf id b).thr = s.thr := by
  cases id with
  | rt f => cases f <;> rfl
  | _ => rfl
@[simp] theorem setBuf_prog (id : BufId) (b : TextBuffer) (s : State) : (s.setBuf id b).prog = s.prog := by
  cases id with
  | rt f => cases f <;> rfl
  | _ => rfl
@[simp] theorem setBuf_listen (id : BufId) (b : TextBuffer) (s : State) : (s.setBuf id b).listen = s.listen := by
  cases id with
  | rt f => cases f <;> rfl
  | _ => rfl
@[simp] theorem setBuf_life (id : BufId) (b : TextBuffer) (s : State) : (s.setBuf id b).life = s.life := by
  cases id with
  | rt f => cases f <;> rfl
  | _ => rfl
@[simp] theorem setBuf_inbox (id : BufId) (b : TextBuffer) (s : State) : (s.setBuf id b).inbox = s.inbox := by
  cases id with
  | rt f => cases f <;> rfl
  | _ => rfl
@[simp] theorem setBuf_out (id : BufId) (b : TextBuffer) (s : State) : (s.setBuf id b).out = s.out := by
  cases id with
  | rt f => cases f <;> rfl
  | _ => rfl
@[simp] theorem setBuf_buf_same (id : BufId) (b : TextBuffer) (s : State) : (s.setBuf id b).buf id = b := by
  cases id with
  | rt f => cases f <;> rfl
  | _ => rfl
theorem setBuf_buf_other (id id' : BufId) (h : id' ≠ id) (b : TextBuffer) (s : State) :
    (s.setBuf id b).buf id' = s.buf id' := by
  cases id with
  | ps => cases id' with
    | ps => exact absurd rfl h
    | rt f' => cases f' <;> rfl
    | ptyn => rfl
  | rt f => cases id' with
    | ps => cases f <;> rfl
    | rt f' => cases f <;> cases f' <;> first | rfl | exact absurd rfl h
    | ptyn => cases f <;> rfl
  | ptyn => cases id' with
    | ps => rfl
    | rt f' => cases f' <;> rfl
    | ptyn => exact absurd rfl h

/-! ### The scalar steps -/

@[simp] theorem piStep_pi (a : Block) (s : State) : (piStep a s).pi = some a := rfl
@[simp] theorem piStep_pty (a : Block) (s : State) : (piStep a s).pty = s.pty := rfl
@[simp] theorem piStep_tp (a : Block) (s : State) : (piStep a s).tp = s.tp := rfl
@[simp] theorem piStep_ta (a : Block) (s : State) : (piStep a s).ta = s.ta := rfl
@[simp] theorem piStep_ms (a : Block) (s : State) : (piStep a s).ms = s.ms := rfl
@[simp] theorem piStep_ecc (a : Block) (s : State) : (piStep a s).ecc = s.ecc := rfl
@[simp] theorem piStep_country (a : Block) (s : State) : (piStep a s).country = s.country := rfl
@[simp] theorem piStep_afset (a : Block) (s : State) : (piStep a s).afset = s.afset := rfl
@[simp] theorem piStep_ct (a : Block) (s : State) : (piStep a s).ct = s.ct := rfl
@[simp] theorem piStep_rtActive (a : Block) (s : State) : (piStep a s).rtActive = s.rtActive := rfl
@[simp] theorem piStep_ps (a : Block) (s : State) : (piStep a s).ps = s.ps := rfl
@[simp] theorem piStep_rt0 (a : Block) (s : State) : (piStep a s).rt0 = s.rt0 := rfl
@[simp] theorem piStep_rt1 (a : Block) (s : State) : (piStep a s).rt1 = s.rt1 := rfl
@[simp] theorem piStep_ptyn (a : Block) (s : State) : (piStep a s).ptyn = s.ptyn := rfl
@[simp] theorem piStep_thr (a : Block) (s : State) : (piStep a s).thr = s.thr := rfl
@[simp] theorem piStep_prog (a : Block) (s : State) : (piStep a s).prog = s.prog := rfl
@[simp] theorem piStep_listen (a : Block) (s : State) : (piStep a s).listen = s.listen := rfl
@[simp] theorem piStep_life (a : Block) (s : State) : (piStep a s).life = s.life := rfl
@[simp] theorem piStep_inbox (a : Block) (s : State) : (piStep a s).inbox = s.inbox := rfl
@[simp] theorem piStep_ok (a : Block) (s : State) : (piStep a s).out.ok = s.out.ok := rfl
@[simp] theorem piStep_value (a : Block) (s : State) : (piStep a s).out.value = s.out.value := rfl
@[simp] theorem piStep_buf (a : Block) (s : State) (id : BufId) : (piStep a s).buf id = s.buf id := by
  cases id with
  | rt f => cases f <;> rfl
  | _ => rfl
theorem piStep_events (a : Block) (s : State) :
    (piStep a s).out.events = s.out.events ++ (if s.pi != some a && s.listen.pi then [.pi a] else []) := rfl

@[simp] theorem tpStep_pi (b : Bool) (s : State) : (tpStep b s).pi = s.pi := rfl
@[simp] theorem tpStep_pty (b : Bool) (s : State) : (tpStep b s).pty = s.pty := rfl
@[simp] theorem tpStep_tp (b : Bool) (s : State) : (tpStep b s).tp = some b := rfl
@[simp] theorem tpStep_ta (b : Bool) (s : State) : (tpStep b s).ta = s.ta := rfl
@[simp] theorem tpStep_ms (b : Bool) (s : State) : (tpStep b s).ms = s.ms := rfl
@[simp] theorem tpStep_ecc (b : Bool) (s : State) : (tpStep b s).ecc = s.ecc := rfl
@[simp] theorem tpStep_country (b : Bool) (s : State) : (tpStep b s).country = s.country := rfl
@[simp] theorem tpStep_afset (b : Bool) (s : State) : (tpStep b s).afset = s.afset := rfl
@[simp] theorem tpStep_ct (b : Bool) (s : State) : (tpStep b s).ct = s.ct := rfl
@[simp] theorem tpStep_rtActive (b : Bool) (s : State) : (tpStep b s).rtActive = s.rtActive := rfl
@[simp] theorem tpStep_ps (b : Bool) (s : State) : (tpStep b s).ps = s.ps := rfl
@[simp] theorem tpStep_rt0 (b : Bool) (s : State) : (tpStep b s).rt0 = s.rt0 := rfl
@[simp] theorem tpStep_rt1 (b : Bool) (s : State) : (tpStep b s).rt1 = s.rt1 := rfl
@[simp] theorem tpStep_ptyn (b : Bool) (s : State) : (tpStep b s).ptyn = s.ptyn := rfl
@[simp] theorem tpStep_thr (b : Bool) (s : State) : (tpStep b s).thr = s.thr := rfl
@[simp] theorem tpStep_prog (b : Bool) (s : State) : (tpStep b s).prog = s.prog := rfl
@[simp] theorem tpStep_listen (b : Bool) (s : State) : (tpStep b s).listen = s.listen := rfl
@[simp] theorem tpStep_life (b : Bool) (s : State) : (tpStep b s).life = s.life := rfl
@[simp] theorem tpStep_inbox (b : Bool) (s : State) : (tpStep b s).inbox = s.inbox := rfl
@[simp] theorem tpStep_ok (b : Bool) (s : State) : (tpStep b s).out.ok = s.out.ok := rfl
@[simp] theorem tpStep_value (b : Bool) (s : State) : (tpStep b s).out.value = s.out.value := rfl
@[simp] theorem tpStep_buf (b : Bool) (s : State) (id : BufId) : (tpStep b s).buf id = s.buf id := by
  cases id with
  | rt f => cases f <;> rfl
  | _ => rfl
theorem tpStep_events (b : Bool) (s : State) :
    (tpStep b s).out.events = s.out.events ++ (if s.tp != some b && s.listen.tp then [.tp b] else []) := rfl

@[simp] theorem ptyStep_pi (v : BitVec 5) (s : State) : (ptyStep v s).pi = s.pi := rfl
@[simp] theorem ptyStep_pty (v : BitVec 5) (s : State) : (ptyStep v s).pty = some v := rfl
@[simp] theorem ptyStep_tp (v : BitVec 5) (s : State) : (ptyStep v s).tp = s.tp := rfl
@[simp] theorem ptyStep_ta (v : BitVec 5) (s : State) : (ptyStep v s).ta = s.ta := rfl
@[simp] theorem ptyStep_ms (v : BitVec 5) (s : State) : (ptyStep v s).ms = s.ms := rfl
@[simp] theorem ptyStep_ecc (v : BitVec 5) (s : State) : (ptyStep v s).ecc = s.ecc := rfl
@[simp] theorem ptyStep_country (v : BitVec 5) (s : State) : (ptyStep v s).country = s.country := rfl
@[simp] theorem ptyStep_afset (v : BitVec 5) (s : State) : (ptyStep v s).afset = s.afset := rfl
@[simp] theorem ptyStep_ct (v : BitVec 5) (s : State) : (ptyStep v s).ct = s.ct := rfl
@[simp] theorem ptyStep_rtActive (v : BitVec 5) (s : State) : (ptyStep v s).rtActive = s.rtActive := rfl
@[simp] theorem ptyStep_ps (v : BitVec 5) (s : State) : (ptyStep v s).ps = s.ps := rfl
@[simp] theorem ptyStep_rt0 (v : BitVec 5) (s : State) : (ptyStep v s).rt0 = s.rt0 := rfl
@[simp] theorem ptyStep_rt1 (v : BitVec 5) (s : State) : (ptyStep v s).rt1 = s.rt1 := rfl
@[simp] theorem ptyStep_ptyn (v : BitVec 5) (s : State) : (ptyStep v s).ptyn = s.ptyn := rfl
@[simp] theorem ptyStep_thr (v : BitVec 5) (s : State) : (ptyStep v s).thr = s.thr := rfl
@[simp] theorem ptyStep_prog (v : BitVec 5) (s : State) : (ptyStep v s).prog = s.prog := rfl
@[simp] theorem ptyStep_listen (v : BitVec 5) (s : State) : (ptyStep v s).listen = s.listen := rfl
@[simp] theorem ptyStep_life (v : BitVec 5) (s : State) : (ptyStep v s).life = s.life := rfl
@[simp] theorem ptyStep_inbox (v : BitVec 5) (s : State) : (ptyStep v s).inbox = s.inbox := rfl
@[simp] theorem ptyStep_ok (v : BitVec 5) (s : State) : (ptyStep v s).out.ok = s.out.ok := rfl
@[simp] theorem ptyStep_value (v : BitVec 5) (s : State) : (ptyStep v s).out.value = s.out.value := rfl
@[simp] theorem ptyStep_buf (v : BitVec 5) (s : State) (id : BufId) : (ptyStep v s).buf id = s.buf id := by
  cases id with
  | rt f => cases f <;> rfl
  | _ => rfl
theorem ptyStep_events (v : BitVec 5) (s : State) :
    (ptyStep v s).out.events = s.out.events ++ (if s.pty != some v && s.listen.pty then [.pty v] else []) := rfl

@[simp] theorem taStep_pi (b : Bool) (s : State) : (taStep b s).pi = s.pi := rfl
@[simp] theorem taStep_pty (b : Bool) (s : State) : (taStep b s).pty = s.pty := rfl
@[simp] theorem taStep_tp (b : Bool) (s : State) : (taStep b s).tp = s.tp := rfl
@[simp] theorem taStep_ta (b : Bool) (s : State) : (taStep b s).ta = some b := rfl
@[simp] theorem taStep_ms (b : Bool) (s : State) : (taStep b s).ms = s.ms := rfl
@[simp] theorem taStep_ecc (b : Bool) (s : State) : (taStep b s).ecc = s.ecc := rfl
@[simp] theorem taStep_country (b : Bool) (s : State) : (taStep b s).country = s.country := rfl
@[simp] theorem taStep_afset (b : Bool) (s : State) : (taStep b s).afset = s.afset := rfl
@[simp] theorem taStep_ct (b : Bool) (s : State) : (taStep b s).ct = s.ct := rfl
@[simp] theorem taStep_rtActive (b : Bool) (s : State) : (taStep b s).rtActive = s.rtActive := rfl
@[simp] theorem taStep_ps (b : Bool) (s : State) : (taStep b s).ps = s.ps := rfl
@[simp] theorem taStep_rt0 (b : Bool) (s : State) : (taStep b s).rt0 = s.rt0 := rfl
@[simp] theorem taStep_rt1 (b : Bool) (s : State) : (taStep b s).rt1 = s.rt1 := rfl
@[simp] theorem taStep_ptyn (b : Bool) (s : State) : (taStep b s).ptyn = s.ptyn := rfl
@[simp] theorem taStep_thr (b : Bool) (s : State) : (taStep b s).thr = s.thr := rfl
@[simp] theorem taStep_prog (b : Bool) (s : State) : (taStep b s).prog = s.prog := rfl
@[simp] theorem taStep_listen (b : Bool) (s : State) : (taStep b s).listen = s.listen := rfl
@[simp] theorem taStep_life (b : Bool) (s : State) : (taStep b s).life = s.life := rfl
@[simp] theorem taStep_inbox (b : Bool) (s : State) : (taStep b s).inbox = s.inbox := rfl
@[simp] theorem taStep_ok (b : Bool) (s : State) : (taStep b s).out.ok = s.out.ok := rfl
@[simp] theorem taStep_value (b : Bool) (s : State) : (taStep b s).out.value = s.out.value := rfl
@[simp] theorem taStep_buf (b : Bool) (s : State) (id : BufId) : (taStep b s).buf id = s.buf id := by
  cases id with
  | rt f => cases f <;> rfl
  | _ => rfl
theorem taStep_events (b : Bool) (s : State) :
    (taStep b s).out.events = s.out.events ++ (if s.ta != some b && s.listen.ta then [.ta b] else []) := rfl

@[simp] theorem msStep_pi (b : Bool) (s : State) : (msStep b s).pi = s.pi := rfl
@[simp] theorem msStep_pty (b : Bool) (s : State) : (msStep b s).pty = s.pty := rfl
@[simp] theorem msStep_tp (b : Bool) (s : State) : (msStep b s).tp = s.tp := rfl
@[simp] theorem msStep_ta (b : Bool) (s : State) : (msStep b s).ta = s.ta := rfl
@[simp] theorem msStep_ms (b : Bool) (s : State) : (msStep b s).ms = some b := rfl
@[simp] theorem msStep_ecc (b : Bool) (s : State) : (msStep b s).ecc = s.ecc := rfl
@[simp] theorem msStep_country (b : Bool) (s : State) : (msStep b s).country = s.country := rfl
@[simp] theorem msStep_afset (b : Bool) (s : State) : (msStep b s).afset = s.afset := rfl
@[simp] theorem msStep_ct (b : Bool) (s : State) : (msStep b s).ct = s.ct := rfl
@[simp] theorem msStep_rtActive (b : Bool) (s : State) : (msStep b s).rtActive = s.rtActive := rfl
@[simp] theorem msStep_ps (b : Bool) (s : State) : (msStep b s).ps = s.ps := rfl
@[simp] theorem msStep_rt0 (b : Bool) (s : State) : (msStep b s).rt0 = s.rt0 := rfl
@[simp] theorem msStep_rt1 (b : Bool) (s : State) : (msStep b s).rt1 = s.rt1 := rfl
@[simp] theorem msStep_ptyn (b : Bool) (s : State) : (msStep b s).ptyn = s.ptyn := rfl
@[simp] theorem msStep_thr (b : Bool) (s : State) : (msStep b s).thr = s.thr := rfl
@[simp] theorem msStep_prog (b : Bool) (s : State) : (msStep b s).prog = s.prog := rfl
@[simp] theorem msStep_listen (b : Bool) (s : State) : (msStep b s).listen = s.listen := rfl
@[simp] theorem msStep_life (b : Bool) (s : State) : (msStep b s).life = s.life := rfl
@[simp] theorem msStep_inbox (b : Bool) (s : State) : (msStep b s).inbox = s.inbox := rfl
@[simp] theorem msStep_ok (b : Bool) (s : State) : (msStep b s).out.ok = s.out.ok := rfl
@[simp] theorem msStep_value (b : Bool) (s : State) : (msStep b s).out.value = s.out.value := rfl
@[simp] theorem msStep_buf (b : Bool) (s : State) (id : BufId) : (msStep b s).buf id = s.buf id := by
  cases id with
  | rt f => cases f <;> rfl
  | _ => rfl
theorem msStep_events (b : Bool) (s : State) :
    (msStep b s).out.events = s.out.events ++ (if s.ms != some b && s.listen.ms then [.ms b] else []) := rfl

@[simp] theorem eccStep_pi (e : Byte) (s : State) : (eccStep e s).pi = s.pi := rfl
@[simp] theorem eccStep_pty (e : Byte) (s : State) : (eccStep e s).pty = s.pty := rfl
@[simp] theorem eccStep_tp (e : Byte) (s : State) : (eccStep e s).tp = s.tp := rfl
@[simp] theorem eccStep_ta (e : Byte) (s : State) : (eccStep e s).ta = s.ta := rfl
@[simp] theorem eccStep_ms (e : Byte) (s : State) : (eccStep e s).ms = s.ms := rfl
@[simp] theorem eccStep_ecc (e : Byte) (s : State) : (eccStep e s).ecc = some e := rfl
@[simp] theorem eccStep_country (e : Byte) (s : State) : (eccStep e s).country = s.country := rfl
@[simp] theorem eccStep_afset (e : Byte) (s : State) : (eccStep e s).afset = s.afset := rfl
@[simp] theorem eccStep_ct (e : Byte) (s : State) : (eccStep e s).ct = s.ct := rfl
@[simp] theorem eccStep_rtActive (e : Byte) (s : State) : (eccStep e s).rtActive = s.rtActive := rfl
@[simp] theorem eccStep_ps (e : Byte) (s : State) : (eccStep e s).ps = s.ps := rfl
@[simp] theorem eccStep_rt0 (e : Byte) (s : State) : (eccStep e s).rt0 = s.rt0 := rfl
@[simp] theorem eccStep_rt1 (e : Byte) (s : State) : (eccStep e s).rt1 = s.rt1 := rfl
@[simp] theorem eccStep_ptyn (e : Byte) (s : State) : (eccStep e s).ptyn = s.ptyn := rfl
@[simp] theorem eccStep_thr (e : Byte) (s : State) : (eccStep e s).thr = s.thr := rfl
@[simp] theorem eccStep_prog (e : Byte) (s : State) : (eccStep e s).prog = s.prog := rfl
@[simp] theorem eccStep_listen (e : Byte) (s : State) : (eccStep e s).listen = s.listen := rfl
@[simp] theorem eccStep_life (e : Byte) (s : State) : (eccStep e s).life = s.life := rfl
@[simp] theorem eccStep_inbox (e : Byte) (s : State) : (eccStep e s).inbox = s.inbox := rfl
@[simp] theorem eccStep_ok (e : Byte) (s : State) : (eccStep e s).out.ok = s.out.ok := rfl
@[simp] theorem eccStep_value (e : Byte) (s : State) : (eccStep e s).out.value = s.out.value := rfl
@[simp] theorem eccStep_buf (e : Byte) (s : State) (id : BufId) : (eccStep e s).buf id = s.buf id := by
  cases id with
  | rt f => cases f <;> rfl
  | _ => rfl
theorem eccStep_events (e : Byte) (s : State) :
    (eccStep e s).out.events = s.out.events ++ (if s.ecc != some e && s.listen.ecc then [.ecc e] else []) := rfl

@[simp] theorem countryStep_pi (s : State) : (countryStep s).pi = s.pi := rfl
@[simp] theorem countryStep_pty (s : State) : (countryStep s).pty = s.pty := rfl
@[simp] theorem countryStep_tp (s : State) : (countryStep s).tp = s.tp := rfl
@[simp] theorem countryStep_ta (s : State) : (countryStep s).ta = s.ta := rfl
@[simp] theorem countryStep_ms (s : State) : (countryStep s).ms = s.ms := rfl
@[simp] theorem countryStep_ecc (s : State) : (countryStep s).ecc = s.ecc := rfl
@[simp] theorem countryStep_country (s : State) : (countryStep s).country = lookupCountry s := rfl
@[simp] theorem countryStep_afset (s : State) : (countryStep s).afset = s.afset := rfl
@[simp] theorem countryStep_ct (s : State) : (countryStep s).ct = s.ct := rfl
@[simp] theorem countryStep_rtActive (s : State) : (countryStep s).rtActive = s.rtActive := rfl
@[simp] theorem countryStep_ps (s : State) : (countryStep s).ps = s.ps := rfl
@[simp] theorem countryStep_rt0 (s : State) : (countryStep s).rt0 = s.rt0 := rfl
@[simp] theorem countryStep_rt1 (s : State) : (countryStep s).rt1 = s.rt1 := rfl
@[simp] theorem countryStep_ptyn (s : State) : (countryStep s).ptyn = s.ptyn := rfl
@[simp] theorem countryStep_thr (s : State) : (countryStep s).thr = s.thr := rfl
@[simp] theorem countryStep_prog (s : State) : (countryStep s).prog = s.prog := rfl
@[simp] theorem countryStep_listen (s : State) : (countryStep s).listen = s.listen := rfl
@[simp] theorem countryStep_life (s : State) : (countryStep s).life = s.life := rfl
@[simp] theorem countryStep_inbox (s : State) : (countryStep s).inbox = s.inbox := rfl
@[simp] theorem countryStep_ok (s : State) : (countryStep s).out.ok = s.out.ok := rfl
@[simp] theorem countryStep_value (s : State) : (countryStep s).out.value = s.out.value := rfl
@[simp] theorem countryStep_buf (s : State) (id : BufId) : (countryStep s).buf id = s.buf id := by
  cases id with
  | rt f => cases f <;> rfl
  | _ => rfl
theorem countryStep_events (s : State) :
    (countryStep s).out.events = s.out.events ++ (if s.country != lookupCountry s && s.listen.country then [.country (lookupCountry s)] else []) := rfl

/-! ### The common part -/

@[simp] theorem commonPart_pi (h : Head) (s : State) : (commonPart h s).pi = some h.pi := rfl
@[simp] theorem commonPart_pty (h : Head) (s : State) : (commonPart h s).pty = some h.pty := rfl
@[simp] theorem commonPart_tp (h : Head) (s : State) : (commonPart h s).tp = some h.tp := rfl
@[simp] theorem commonPart_ta (h : Head) (s : State) : (commonPart h s).ta = s.ta := rfl
@[simp] theorem commonPart_ms (h : Head) (s : State) : (commonPart h s).ms = s.ms := rfl
@[simp] theorem commonPart_ecc (h : Head) (s : State) : (commonPart h s).ecc = s.ecc := rfl
@[simp] theorem commonPart_country (h : Head) (s : State) : (commonPart h s).country = s.country := rfl
@[simp] theorem commonPart_afset (h : Head) (s : State) : (commonPart h s).afset = s.afset := rfl
@[simp] theorem commonPart_ct (h : Head) (s : State) : (commonPart h s).ct = s.ct := rfl
@[simp] theorem commonPart_rtActive (h : Head) (s : State) : (commonPart h s).rtActive = s.rtActive := rfl
@[simp] theorem commonPart_ps (h : Head) (s : State) : (commonPart h s).ps = s.ps := rfl
@[simp] theorem commonPart_rt0 (h : Head) (s : State) : (commonPart h s).rt0 = s.rt0 := rfl
@[simp] theorem commonPart_rt1 (h : Head) (s : State) : (commonPart h s).rt1 = s.rt1 := rfl
@[simp] theorem commonPart_ptyn (h : Head) (s : State) : (commonPart h s).ptyn = s.ptyn := rfl
@[simp] theorem commonPart_thr (h : Head) (s : State) : (commonPart h s).thr = s.thr := rfl
@[simp] theorem commonPart_prog (h : Head) (s : State) : (commonPart h s).prog = s.prog := rfl
@[simp] theorem commonPart_listen (h : Head) (s : State) : (commonPart h s).listen = s.listen := rfl
@[simp] theorem commonPart_life (h : Head) (s : State) : (commonPart h s).life = s.life := rfl
@[simp] theorem commonPart_inbox (h : Head) (s : State) : (commonPart h s).inbox = s.inbox := rfl
@[simp] theorem commonPart_ok (h : Head) (s : State) : (commonPart h s).out.ok = s.out.ok := rfl
@[simp] theorem commonPart_value (h : Head) (s : State) : (commonPart h s).out.value = s.out.value := rfl
@[simp] theorem commonPart_buf (h : Head) (s : State) (id : BufId) : (commonPart h s).buf id = s.buf id := by
  simp [commonPart]
theorem commonPart_events (h : Head) (s : State) :
    (commonPart h s).out.events = s.out.events ++ (if s.pi != some h.pi && s.listen.pi then [.pi h.pi] else []) ++
      (if s.tp != some h.tp && s.listen.tp then [.tp h.tp] else []) ++
      (if s.pty != some h.pty && s.listen.pty then [.pty h.pty] else []) := rfl

/-! ### Text writes -/

@[simp] theorem writeSegment_pi (id : BufId) (o : Nat) (c0 c1 : Byte) (i : Level) (s : State) :
    (writeSegment id o c0 c1 i s).pi = s.pi := setBuf_pi _ _ _
@[simp] theorem writeSegment_pty (id : BufId) (o : Nat) (c0 c1 : Byte) (i : Level) (s : State) :
    (writeSegment id o c0 c1 i s).pty = s.pty := setBuf_pty _ _ _
@[simp] theorem writeSegment_tp (id : BufId) (o : Nat) (c0 c1 : Byte) (i : Level) (s : State) :
    (writeSegment id o c0 c1 i s).tp = s.tp := setBuf_tp _ _ _
@[simp] theorem writeSegment_ta (id : BufId) (o : Nat) (c0 c1 : Byte) (i : Level) (s : State) :
    (writeSegment id o c0 c1 i s).ta = s.ta := setBuf_ta _ _ _
@[simp] theorem writeSegment_ms (id : BufId) (o : Nat) (c0 c1 : Byte) (i : Level) (s : State) :
    (writeSegment id o c0 c1 i s).ms = s.ms := setBuf_ms _ _ _
@[simp] theorem writeSegment_ecc (id : BufId) (o : Nat) (c0 c1 : Byte) (i : Level) (s : State) :
    (writeSegment id o c0 c1 i s).ecc = s.ecc := setBuf_ecc _ _ _
@[simp] theorem writeSegment_country (id : BufId) (o : Nat) (c0 c1 : Byte) (i : Level) (s : State) :
    (writeSegment id o c0 c1 i s).country = s.country := setBuf_country _ _ _
@[simp] theorem writeSegment_afset (id : BufId) (o : Nat) (c0 c1 : Byte) (i : Level) (s : State) :
    (writeSegment id o c0 c1 i s).afset = s.afset := setBuf_afset _ _ _
@[simp] theorem writeSegment_ct (id : BufId) (o : Nat) (c0 c1 : Byte) (i : Level) (s : State) :
    (writeSegment id o c0 c1 i s).ct = s.ct := setBuf_ct _ _ _
@[simp] theorem writeSegment_rtActive (id : BufId) (o : Nat) (c0 c1 : Byte) (i : Level) (s : State) :
    (writeSegment id o c0 c1 i s).rtActive = s.rtActive := setBuf_rtActive _ _ _
@[simp] theorem writeSegment_thr (id : BufId) (o : Nat) (c0 c1 : Byte) (i : Level) (s : State) :
    (writeSegment id o c0 c1 i s).thr = s.thr := setBuf_thr _ _ _
@[simp] theorem writeSegment_prog (id : BufId) (o : Nat) (c0 c1 : Byte) (i : Level) (s : State) :
    (writeSegment id o c0 c1 i s).prog = s.prog := setBuf_prog _ _ _
@[simp] theorem writeSegment_listen (id : BufId) (o : Nat) (c0 c1 : Byte) (i : Level) (s : State) :
    (writeSegment id o c0 c1 i s).listen = s.listen := setBuf_listen _ _ _
@[simp] theorem writeSegment_life (id : BufId) (o : Nat) (c0 c1 : Byte) (i : Level) (s : State) :
    (writeSegment id o c0 c1 i s).life = s.life := setBuf_life _ _ _
@[simp] theorem writeSegment_inbox (id : BufId) (o : Nat) (c0 c1 : Byte) (i : Level) (s : State) :
    (writeSegment id o c0 c1 i s).inbox = s.inbox := setBuf_inbox _ _ _
@[simp] theorem writeSegment_out (id : BufId) (o : Nat) (c0 c1 : Byte) (i : Level) (s : State) :
    (writeSegment id o c0 c1 i s).out = s.out := setBuf_out _ _ _
@[simp] theorem writeSegment_buf_same (id : BufId) (o : Nat) (c0 c1 : Byte) (i : Level) (s : State) :
    (writeSegment id o c0 c1 i s).buf id =
      (s.buf id).writeSegment (s.prog.get id.kind) (s.thr.get id.kind .data) o c0 c1 i := setBuf_buf_same _ _ _
theorem writeSegment_buf_other (id id' : BufId) (h : id' ≠ id) (o : Nat) (c0 c1 : Byte) (i : Level) (s : State) :
    (writeSegment id o c0 c1 i s).buf id' = s.buf id' := setBuf_buf_other _ _ h _ _
@[simp] theorem setEfflen_pi (f : Bool) (n : Nat) (s : State) : (setEfflen f n s).pi = s.pi := setBuf_pi _ _ _
@[simp] theorem setEfflen_pty (f : Bool) (n : Nat) (s : State) : (setEfflen f n s).pty = s.pty := setBuf_pty _ _ _
@[simp] theorem setEfflen_tp (f : Bool) (n : Nat) (s : State) : (setEfflen f n s).tp = s.tp := setBuf_tp _ _ _
@[simp] theorem setEfflen_ta (f : Bool) (n : Nat) (s : State) : (setEfflen f n s).ta = s.ta := setBuf_ta _ _ _
@[simp] theorem setEfflen_ms (f : Bool) (n : Nat) (s : State) : (setEfflen f n s).ms = s.ms := setBuf_ms _ _ _
@[simp] theorem setEfflen_ecc (f : Bool) (n : Nat) (s : State) : (setEfflen f n s).ecc = s.ecc := setBuf_ecc _ _ _
@[simp] theorem setEfflen_country (f : Bool) (n : Nat) (s : State) : (setEfflen f n s).country = s.country := setBuf_country _ _ _
@[simp] theorem setEfflen_afset (f : Bool) (n : Nat) (s : State) : (setEfflen f n s).afset = s.afset := setBuf_afset _ _ _
@[simp] theorem setEfflen_ct (f : Bool) (n : Nat) (s : State) : (setEfflen f n s).ct = s.ct := setBuf_ct _ _ _
@[simp] theorem setEfflen_rtActive (f : Bool) (n : Nat) (s : State) : (setEfflen f n s).rtActive = s.rtActive := setBuf_rtActive _ _ _
@[simp] theorem setEfflen_thr (f : Bool) (n : Nat) (s : State) : (setEfflen f n s).thr = s.thr := setBuf_thr _ _ _
@[simp] theorem setEfflen_prog (f : Bool) (n : Nat) (s : State) : (setEfflen f n s).prog = s.prog := setBuf_prog _ _ _
@[simp] theorem setEfflen_listen (f : Bool) (n : Nat) (s : State) : (setEfflen f n s).listen = s.listen := setBuf_listen _ _ _
@[simp] theorem setEfflen_life (f : Bool) (n : Nat) (s : State) : (setEfflen f n s).life = s.life := setBuf_life _ _ _
@[simp] theorem setEfflen_inbox (f : Bool) (n : Nat) (s : State) : (setEfflen f n s).inbox = s.inbox := setBuf_inbox _ _ _
@[simp] theorem setEfflen_out (f : Bool) (n : Nat) (s : State) : (setEfflen f n s).out = s.out := setBuf_out _ _ _
@[simp] theorem setEfflen_buf_same (f : Bool) (n : Nat) (s : State) :
    (setEfflen f n s).buf (.rt f) = { s.buf (.rt f) with efflen := n } := setBuf_buf_same _ _ _
theorem setEfflen_buf_other (f : Bool) (id : BufId) (h : id ≠ .rt f) (n : Nat) (s : State) :
    (setEfflen f n s).buf id = s.buf id := setBuf_buf_other _ _ h _ _

/-! ### Configuration -/

@[simp] theorem thresholds_get_set_same (t : Thresholds) (k : TextKind) (x : Axis) (l : Level) :
    (t.set k x l).get k x = l := by cases k <;> cases x <;> rfl
theorem thresholds_get_set_other (t : Thresholds) (k k' : TextKind) (x x' : Axis) (l : Level)
    (h : ¬ (k' = k ∧ x' = x)) : (t.set k x l).get k' x' = t.get k' x' := by
  cases k <;> cases x <;> cases k' <;> cases x' <;> first | rfl | exact absurd ⟨rfl, rfl⟩ h
@[simp] theorem progressive_get_set_same (p : Progressive) (k : TextKind) (b : Bool) : (p.set k b).get k = b := by
  cases k <;> rfl
theorem progressive_get_set_other (p : Progressive) (k k' : TextKind) (b : Bool) (h : k' ≠ k) :
    (p.set k b).get k' = p.get k' := by
  cases k <;> cases k' <;> first | rfl | exact absurd rfl h
@[simp] theorem listeners_get_set_same (l : Listeners) (k : EventKind) (b : Bool) : (l.set k b).get k = b := by
  cases k <;> rfl
theorem listeners_get_set_other (l : Listeners) (k k' : EventKind) (b : Bool) (h : k' ≠ k) :
    (l.set k b).get k' = l.get k' := by
  cases k <;> cases k' <;> first | rfl | exact absurd rfl h

end Sys2Proof.Machine
end

