-- ==== Sys2Proof/Laws/Ops.lean ====
section
/-!
SUPPORT. For each shared operation, one lemma that says once everything it can do.
-/

namespace Sys2Proof.Machine

/-! ### Answers -/

/-- A live instance answers. -/
theorem whenLive_live {s : State} (body : State → State) (h : s.life = .live) :
    whenLive s body = .next (body s) := by
  simp [whenLive, h]

/-- A destroyed instance refuses. -/
theorem whenLive_destroyed {s : State} (body : State → State) (h : s.life = .destroyed) :
    whenLive s body = .refused .destroyed := by
  simp [whenLive, h]

/-- If a command answers, the instance was live and the answer is the command's effect. -/
theorem whenLive_next {s t : State} {body : State → State} (h : whenLive s body = .next t) :
    s.life = .live ∧ t = body s := by
  cases hl : s.life with
  | live => rw [whenLive_live body hl] at h; exact ⟨rfl, by injection h with h; exact h.symm⟩
  | destroyed => rw [whenLive_destroyed body hl] at h; cases h

/-- The same for a group. -/
theorem decodeWith_next {h : Head} {fields : State → State} {s t : State} (hd : decodeWith h fields s = .next t) :
    s.life = .live ∧ t = fields (commonPart h s.begin) := whenLive_next hd

/-- The same for a group on a live instance. -/
theorem decodeWith_live {s : State} (h : Head) (fields : State → State) (hl : s.life = .live) :
    decodeWith h fields s = .next (fields (commonPart h s.begin)) := whenLive_live _ hl

/-- What a step can do when it answers: idle, or run the instruction of the first frame. -/
theorem step_next {s t : State} (h : step s = .next t) :
    (s.inbox = [] ∧ t = s) ∨
      ∃ frame rest i, s.inbox = frame :: rest ∧ decode frame = .ok i ∧ exec i { s with inbox := rest } = .next t := by
  unfold step at h
  split at h
  · rename_i h0
    injection h with h
    exact .inl ⟨h0, h.symm⟩
  · rename_i frame rest h1
    split at h
    · rename_i i hd
      exact .inr ⟨frame, rest, i, h1, hd, h⟩
    · cases h

/-! ### Text -/

/-- `offer` overwrites the position or leaves the buffer. -/
theorem offer_cases (t : Level) (p : Nat) (c : Byte) (i : Level) (b : TextBuffer) :
    (overwrites t (b.errAt p) (b.chrAt p) c i = true ∧ b.offer t p c i = b.memWrite p c i) ∨
      (overwrites t (b.errAt p) (b.chrAt p) c i = false ∧ b.offer t p c i = b) := by
  unfold TextBuffer.offer
  cases overwrites t (b.errAt p) (b.chrAt p) c i
  · exact .inr ⟨rfl, rfl⟩
  · exact .inl ⟨rfl, rfl⟩

@[simp] theorem offer_conf (t : Level) (p : Nat) (c : Byte) (i : Level) (b : TextBuffer) :
    (b.offer t p c i).conf = b.conf := by
  rcases offer_cases t p c i b with ⟨_, h⟩ | ⟨_, h⟩ <;> rw [h]
  rfl

@[simp] theorem offer_efflen (t : Level) (p : Nat) (c : Byte) (i : Level) (b : TextBuffer) :
    (b.offer t p c i).efflen = b.efflen := by
  rcases offer_cases t p c i b with ⟨_, h⟩ | ⟨_, h⟩ <;> rw [h]
  rfl

@[simp] theorem offer_pubChr (t : Level) (p : Nat) (c : Byte) (i : Level) (b : TextBuffer) :
    (b.offer t p c i).pubChr = b.pubChr := by
  rcases offer_cases t p c i b with ⟨_, h⟩ | ⟨_, h⟩ <;> rw [h]
  rfl

@[simp] theorem offer_pubErr (t : Level) (p : Nat) (c : Byte) (i : Level) (b : TextBuffer) :
    (b.offer t p c i).pubErr = b.pubErr := by
  rcases offer_cases t p c i b with ⟨_, h⟩ | ⟨_, h⟩ <;> rw [h]
  rfl

theorem offer_chrAt_other (t : Level) {p q : Nat} (c : Byte) (i : Level) (b : TextBuffer) (hne : q ≠ p) :
    (b.offer t p c i).chrAt q = b.chrAt q := by
  rcases offer_cases t p c i b with ⟨_, h⟩ | ⟨_, h⟩ <;> rw [h]
  exact memWrite_chrAt_other hne

theorem offer_errAt_other (t : Level) {p q : Nat} (c : Byte) (i : Level) (b : TextBuffer) (hne : q ≠ p) :
    (b.offer t p c i).errAt q = b.errAt q := by
  rcases offer_cases t p c i b with ⟨_, h⟩ | ⟨_, h⟩ <;> rw [h]
  exact memWrite_errAt_other hne

/-- Offering a character inside the buffer keeps it well formed. -/
theorem offer_wf {len p : Nat} {t : Level} {c : Byte} {i : Level} {b : TextBuffer} (h : b.wf len = true)
    (hp : p < len) : (b.offer t p c i).wf len = true := by
  rcases offer_cases t p c i b with ⟨_, ho⟩ | ⟨_, ho⟩ <;> rw [ho]
  · exact memWrite_wf h hp
  · exact h

/-- What `write_segment` can leave: the working copy after both offers with the new counter, published or not. -/
theorem writeSegment_cases (prog : Bool) (t : Level) (o : Nat) (c0 c1 : Byte) (i : Level) (b : TextBuffer) :
    ∃ regress : Bool,
      regress = (b.regresses t o c0 i || (b.offer t o c0 i).regresses t (o + 1) c1 i) ∧
      let w : TextBuffer :=
        { (b.offer t o c0 i).offer t (o + 1) c1 i with conf := nextConf t i regress b.conf }
      (w.publishTest prog t = true ∧ b.writeSegment prog t o c0 c1 i = w.publish) ∨
        (w.publishTest prog t = false ∧ b.writeSegment prog t o c0 c1 i = w) := by
  refine ⟨_, rfl, ?_⟩
  simp only [TextBuffer.writeSegment, offer_conf]
  split
  · rename_i h
    exact .inl ⟨h, rfl⟩
  · rename_i h
    exact .inr ⟨by simpa using h, rfl⟩

/-- A segment written inside the buffer keeps it well formed. -/
theorem textBuffer_writeSegment_wf {len o : Nat} {prog : Bool} {t : Level} {c0 c1 : Byte} {i : Level}
    {b : TextBuffer} (h : b.wf len = true) (ho : o + 1 < len) :
    (b.writeSegment prog t o c0 c1 i).wf len = true := by
  have h2 : ((b.offer t o c0 i).offer t (o + 1) c1 i).wf len = true := offer_wf (offer_wf h (by omega)) ho
  obtain ⟨e1, e2, e3, e4, _⟩ := textBuffer_wf_iff.1 h2
  obtain ⟨r, _, hw⟩ := writeSegment_cases prog t o c0 c1 i b
  have h3 : TextBuffer.wf len { (b.offer t o c0 i).offer t (o + 1) c1 i with conf := nextConf t i r b.conf } = true :=
    textBuffer_wf_iff.2 ⟨e1, e2, e3, e4, nextConf_le (textBuffer_wf_iff.1 h).2.2.2.2⟩
  rcases hw with ⟨_, hw⟩ | ⟨_, hw⟩ <;> rw [hw]
  · exact publish_wf h3
  · exact h3

/-- `rt_select` does nothing, or makes the flag's buffer active and blank. -/
theorem rtSelect_cases (f : Bool) (s : State) :
    (s.rtActive = some f ∧ rtSelect f s = s) ∨
      (s.rtActive ≠ some f ∧
        rtSelect f s = ({ s with rtActive := some f }).setBuf (.rt f) (TextBuffer.blank Config.rtLen)) := by
  by_cases h : s.rtActive = some f
  · exact .inl ⟨h, by simp [rtSelect, h]⟩
  · exact .inr ⟨h, by simp [rtSelect, h]⟩

/-- After `rt_select f` the flag is the active one. -/
@[simp] theorem rtSelect_rtActive (f : Bool) (s : State) : (rtSelect f s).rtActive = some f := by
  rcases rtSelect_cases f s with ⟨h, he⟩ | ⟨_, he⟩ <;> rw [he]
  · exact h
  · simp

/-- A text group is dropped whole by the INFO gate, or makes its writes and emits at most one event. -/
theorem textGroup_cases (id : BufId) (beB : Level) (writes : State → State) (s : State) :
    (s.thr.get id.kind .info < beB ∧ textGroup id beB writes s = s) ∨
      (beB ≤ s.thr.get id.kind .info ∧
        textGroup id beB writes s =
          (writes s).emitWhen (!samePublished id.len (s.buf id) ((writes s).buf id)) id.event) := by
  by_cases h : s.thr.get id.kind .info < beB
  · exact .inl ⟨h, by simp [textGroup, h]⟩
  · exact .inr ⟨by simpa using h, by simp [textGroup, h]⟩

/-! ### AF and clock time -/

/-- `af_add` adds a new frequency code and reports it, or does nothing. -/
theorem afAdd_cases (n : Byte) (s : State) :
    (isFrequencyCode n = true ∧ afMember s.afset n = false ∧
        afAdd n s = ({ s with afset := afInsert s.afset n }).emit (.af (freqKhz n))) ∨
      ((isFrequencyCode n = false ∨ afMember s.afset n = true) ∧ afAdd n s = s) := by
  unfold afAdd
  cases h1 : isFrequencyCode n <;> cases h2 : afMember s.afset n <;> simp

/-- A group 4A writes a snapshot and reports it, or does nothing. -/
theorem group4A_cases (f : Group4A) (s : State) :
    (clockFieldsValid f = true ∧
        group4A f s = ({ s with ct := some (snapshot f) }).emit (.ct (snapshot f))) ∨
      (clockFieldsValid f = false ∧ group4A f s = s) := by
  unfold group4A
  cases h : clockFieldsValid f <;> simp

end Sys2Proof.Machine
end

