-- ==== Sys2Proof/Laws/PerInstr.lean ====
section
/-!
SUPPORT. The per-instruction family `EncodedFrame`: every instruction encodes to a well-formed frame.
-/

namespace Sys2Proof.Laws

/-- The frame of the instruction is well formed. -/
def EncodedFrame.Statement (i : Instr) : Prop := (encode i).wf = true

theorem EncodedFrame.g0A (lv : Levels) (h : Head) (f : Group0A) : EncodedFrame.Statement (.g0A lv h f) := rfl
theorem EncodedFrame.g0B (lv : Levels) (h : Head) (f : Group0B) : EncodedFrame.Statement (.g0B lv h f) := rfl
theorem EncodedFrame.g1A (lv : Levels) (h : Head) (f : Group1A) : EncodedFrame.Statement (.g1A lv h f) := rfl
theorem EncodedFrame.g1B (lv : Levels) (h : Head) (r : Rest) : EncodedFrame.Statement (.g1B lv h r) := rfl
theorem EncodedFrame.g2A (lv : Levels) (h : Head) (f : Group2A) : EncodedFrame.Statement (.g2A lv h f) := rfl
theorem EncodedFrame.g2B (lv : Levels) (h : Head) (f : Group2B) : EncodedFrame.Statement (.g2B lv h f) := rfl
theorem EncodedFrame.g3A (lv : Levels) (h : Head) (r : Rest) : EncodedFrame.Statement (.g3A lv h r) := rfl
theorem EncodedFrame.g3B (lv : Levels) (h : Head) (r : Rest) : EncodedFrame.Statement (.g3B lv h r) := rfl
theorem EncodedFrame.g4A (lv : Levels) (h : Head) (f : Group4A) : EncodedFrame.Statement (.g4A lv h f) := rfl
theorem EncodedFrame.g4B (lv : Levels) (h : Head) (r : Rest) : EncodedFrame.Statement (.g4B lv h r) := rfl
theorem EncodedFrame.g5A (lv : Levels) (h : Head) (r : Rest) : EncodedFrame.Statement (.g5A lv h r) := rfl
theorem EncodedFrame.g5B (lv : Levels) (h : Head) (r : Rest) : EncodedFrame.Statement (.g5B lv h r) := rfl
theorem EncodedFrame.g6A (lv : Levels) (h : Head) (r : Rest) : EncodedFrame.Statement (.g6A lv h r) := rfl
theorem EncodedFrame.g6B (lv : Levels) (h : Head) (r : Rest) : EncodedFrame.Statement (.g6B lv h r) := rfl
theorem EncodedFrame.g7A (lv : Levels) (h : Head) (r : Rest) : EncodedFrame.Statement (.g7A lv h r) := rfl
theorem EncodedFrame.g7B (lv : Levels) (h : Head) (r : Rest) : EncodedFrame.Statement (.g7B lv h r) := rfl
theorem EncodedFrame.g8A (lv : Levels) (h : Head) (r : Rest) : EncodedFrame.Statement (.g8A lv h r) := rfl
theorem EncodedFrame.g8B (lv : Levels) (h : Head) (r : Rest) : EncodedFrame.Statement (.g8B lv h r) := rfl
theorem EncodedFrame.g9A (lv : Levels) (h : Head) (r : Rest) : EncodedFrame.Statement (.g9A lv h r) := rfl
theorem EncodedFrame.g9B (lv : Levels) (h : Head) (r : Rest) : EncodedFrame.Statement (.g9B lv h r) := rfl
theorem EncodedFrame.g10A (lv : Levels) (h : Head) (f : Group10A) : EncodedFrame.Statement (.g10A lv h f) := rfl
theorem EncodedFrame.g10B (lv : Levels) (h : Head) (r : Rest) : EncodedFrame.Statement (.g10B lv h r) := rfl
theorem EncodedFrame.g11A (lv : Levels) (h : Head) (r : Rest) : EncodedFrame.Statement (.g11A lv h r) := rfl
theorem EncodedFrame.g11B (lv : Levels) (h : Head) (r : Rest) : EncodedFrame.Statement (.g11B lv h r) := rfl
theorem EncodedFrame.g12A (lv : Levels) (h : Head) (r : Rest) : EncodedFrame.Statement (.g12A lv h r) := rfl
theorem EncodedFrame.g12B (lv : Levels) (h : Head) (r : Rest) : EncodedFrame.Statement (.g12B lv h r) := rfl
theorem EncodedFrame.g13A (lv : Levels) (h : Head) (r : Rest) : EncodedFrame.Statement (.g13A lv h r) := rfl
theorem EncodedFrame.g13B (lv : Levels) (h : Head) (r : Rest) : EncodedFrame.Statement (.g13B lv h r) := rfl
theorem EncodedFrame.g14A (lv : Levels) (h : Head) (r : Rest) : EncodedFrame.Statement (.g14A lv h r) := rfl
theorem EncodedFrame.g14B (lv : Levels) (h : Head) (r : Rest) : EncodedFrame.Statement (.g14B lv h r) := rfl
theorem EncodedFrame.g15A (lv : Levels) (h : Head) (r : Rest) : EncodedFrame.Statement (.g15A lv h r) := rfl
theorem EncodedFrame.g15B (lv : Levels) (h : Head) (r : Rest) : EncodedFrame.Statement (.g15B lv h r) := rfl
theorem EncodedFrame.create : EncodedFrame.Statement (.create) := rfl
theorem EncodedFrame.destroy : EncodedFrame.Statement (.destroy) := rfl
theorem EncodedFrame.clear : EncodedFrame.Statement (.clear) := rfl
theorem EncodedFrame.decodeHex (chars : List Nat) : EncodedFrame.Statement (.decodeHex chars) := rfl
theorem EncodedFrame.setCorrection (kind axis level : Nat) : EncodedFrame.Statement (.setCorrection kind axis level) := rfl
theorem EncodedFrame.setProgressive (kind enabled : Nat) : EncodedFrame.Statement (.setProgressive kind enabled) := rfl
theorem EncodedFrame.setListener (k enabled : Nat) : EncodedFrame.Statement (.setListener k enabled) := rfl
theorem EncodedFrame.getPi : EncodedFrame.Statement (.getPi) := rfl
theorem EncodedFrame.getPty : EncodedFrame.Statement (.getPty) := rfl
theorem EncodedFrame.getTp : EncodedFrame.Statement (.getTp) := rfl
theorem EncodedFrame.getTa : EncodedFrame.Statement (.getTa) := rfl
theorem EncodedFrame.getMs : EncodedFrame.Statement (.getMs) := rfl
theorem EncodedFrame.getEcc : EncodedFrame.Statement (.getEcc) := rfl
theorem EncodedFrame.getCountry : EncodedFrame.Statement (.getCountry) := rfl
theorem EncodedFrame.getPs : EncodedFrame.Statement (.getPs) := rfl
theorem EncodedFrame.getRt (flag : Nat) : EncodedFrame.Statement (.getRt flag) := rfl
theorem EncodedFrame.getPtyn : EncodedFrame.Statement (.getPtyn) := rfl
theorem EncodedFrame.getCt : EncodedFrame.Statement (.getCt) := rfl
theorem EncodedFrame.decodeRaw (g : Group) (lv : Levels) : EncodedFrame.Statement (.decodeRaw g lv) := by
  have range : operandRangeOk 4#5 [g.toNat, lv.a.toNat, lv.b.toNat, lv.c.toNat, lv.d.toNat] = true := by
    have ha := lv.a.isLt
    have hb := lv.b.isLt
    have hc := lv.c.isLt
    have hd := lv.d.isLt
    simp [operandRangeOk]
    omega
  exact range

end Sys2Proof.Laws
end

