-- ==== Sys2Proof/Tests/Slice0.lean ====
section
/-!
SUPPORT. Small tests: frames the well-formedness check refuses, one word of each row decoded, one step of each
instruction on the vectors of spec/95_test_vectors.md, and for each statement with hypotheses a state and operands
that meet them. A `V` number names the vector; "R91, R92" the encoding a word was written from by hand.
-/

namespace Sys2Proof.Tests

open Sys2Proof.Machine Sys2Proof.Claims

/-! ### Ill-formed frames are refused -/

/-- The step on `s` with one frame waiting. -/
def stepOn (f : Frame) (s : State) : Host.Outcome State Fault Refusal := step { s with inbox := [f] }

/-- The step refuses the frame for the reason `e`. -/
def refusedFor (e : DecodeError) : Host.Outcome State Fault Refusal → Bool
  | .refused (.badFrame e') => e == e'
  | _ => false

/-- Codes 19 and 31 are no commands (R108, 93 U5). -/
theorem test_wellFormed_code :
    Frame.wf (.command 19#5 []) = false ∧ Frame.wf (.command 31#5 []) = false ∧
    refusedFor (.notACommand 19#5) (stepOn (.command 19#5 []) State.reset) = true := by decide

/-- GET_PI takes no operand, SET_CORRECTION three (R108). -/
theorem test_wellFormed_operandCount :
    Frame.wf (.command 8#5 [0]) = false ∧ Frame.wf (.command 5#5 [0, 0]) = false ∧
    refusedFor (.operandCount 5#5) (stepOn (.command 5#5 [0, 0]) State.reset) = true := by decide

/-- DECODE_RAW takes a number below 2^64 and levels below 4 (R142). -/
theorem test_wellFormed_operandRange :
    Frame.wf (.command 4#5 [2 ^ 64, 0, 0, 0, 0]) = false ∧ Frame.wf (.command 4#5 [0, 0, 0, 0, 4]) = false ∧
    refusedFor (.operandRange 4#5) (stepOn (.command 4#5 [0, 4, 0, 0, 0]) State.reset) = true := by decide

/-- The frame of an instruction is well formed. -/
theorem test_wellFormed_accepts :
    Frame.wf (.command 18#5 []) = true ∧ Frame.wf (.command 4#5 [2 ^ 64 - 1, 3, 3, 3, 3]) = true ∧
    Frame.wf (.group 0#64 Levels.zero) = true := by decide

/-! ### Decoding, word by word

The words of the formats are written field by field from R91 and R93 to R99, most significant field first. -/

/-- R91, R93. -/
theorem test_decode_g0A :
    decodeTableWord 64 (BitVec.toNat (0xA201#16 ++ 0#4 ++ 0#1 ++ 1#1 ++ 10#5 ++ 1#1 ++ 0#1 ++ 1#1 ++ 2#2 ++ 0xE2#8 ++ 0x10#8 ++ 0x74#8 ++ 0x69#8)) =
      some (.g0A Levels.zero ⟨0xA201#16, true, 10#5⟩ ⟨true, false, true, 2#2, 0xE2#8, 0x10#8, 0x74#8, 0x69#8⟩) := by decide

/-- R91, R94. -/
theorem test_decode_g0B :
    decodeTableWord 64 (BitVec.toNat (0xA201#16 ++ 0#4 ++ 1#1 ++ 1#1 ++ 10#5 ++ 0#1 ++ 1#1 ++ 0#1 ++ 1#2 ++ 0xCDAB#16 ++ 0x41#8 ++ 0x42#8)) =
      some (.g0B Levels.zero ⟨0xA201#16, true, 10#5⟩ ⟨false, true, false, 1#2, 0xCDAB#16, 0x41#8, 0x42#8⟩) := by decide

/-- R91, R95. -/
theorem test_decode_g1A :
    decodeTableWord 64 (BitVec.toNat (0xA201#16 ++ 1#4 ++ 0#1 ++ 1#1 ++ 10#5 ++ 9#5 ++ 1#1 ++ 5#3 ++ 10#4 ++ 0xE2#8 ++ 0x1234#16)) =
      some (.g1A Levels.zero ⟨0xA201#16, true, 10#5⟩ ⟨9#5, true, 5#3, 10#4, 0xE2#8, 0x1234#16⟩) := by decide

/-- R91, R96. -/
theorem test_decode_g2A :
    decodeTableWord 64 (BitVec.toNat (0xA201#16 ++ 2#4 ++ 0#1 ++ 1#1 ++ 10#5 ++ 1#1 ++ 9#4 ++ 0x4E#8 ++ 0x45#8 ++ 0x57#8 ++ 0x20#8)) =
      some (.g2A Levels.zero ⟨0xA201#16, true, 10#5⟩ ⟨true, 9#4, 0x4E#8, 0x45#8, 0x57#8, 0x20#8⟩) := by decide

/-- R91, R97. -/
theorem test_decode_g2B :
    decodeTableWord 64 (BitVec.toNat (0xA201#16 ++ 2#4 ++ 1#1 ++ 1#1 ++ 10#5 ++ 1#1 ++ 6#4 ++ 0xA201#16 ++ 0x41#8 ++ 0x42#8)) =
      some (.g2B Levels.zero ⟨0xA201#16, true, 10#5⟩ ⟨true, 6#4, 0xA201#16, 0x41#8, 0x42#8⟩) := by decide

/-- R91, R98. -/
theorem test_decode_g4A :
    decodeTableWord 64 (BitVec.toNat (0xA201#16 ++ 4#4 ++ 0#1 ++ 1#1 ++ 10#5 ++ 5#3 ++ 60328#17 ++ 23#5 ++ 59#6 ++ 1#1 ++ 11#5)) =
      some (.g4A Levels.zero ⟨0xA201#16, true, 10#5⟩ ⟨5#3, 60328#17, 23#5, 59#6, true, 11#5⟩) := by decide

/-- R91, R99. -/
theorem test_decode_g10A :
    decodeTableWord 64 (BitVec.toNat (0xA201#16 ++ 10#4 ++ 0#1 ++ 1#1 ++ 10#5 ++ 1#1 ++ 5#3 ++ 1#1 ++ 0x54#8 ++ 0x45#8 ++ 0x53#8 ++ 0x54#8)) =
      some (.g10A Levels.zero ⟨0xA201#16, true, 10#5⟩ ⟨true, 5#3, 1#1, 0x54#8, 0x45#8, 0x53#8, 0x54#8⟩) := by decide

/-- R92, R107 and the vectors V1, V13, V20, V50, V55, V60, V81 in hexadecimal: the seven recognised group codes. -/
theorem test_decode_vectors :
    decodeTableWord 64 0xA2010148E2107469 =
      some (.g0A Levels.zero ⟨0xA201#16, false, 10#5⟩ ⟨false, true, false, 0#2, 0xE2#8, 0x10#8, 0x74#8, 0x69#8⟩) ∧
    decodeTableWord 64 0xA2010949A201206E =
      some (.g0B Levels.zero ⟨0xA201#16, false, 10#5⟩ ⟨false, true, false, 1#2, 0xA201#16, 0x20#8, 0x6E#8⟩) ∧
    decodeTableWord 64 0xA201114000E20000 =
      some (.g1A Levels.zero ⟨0xA201#16, false, 10#5⟩ ⟨0#5, false, 0#3, 0#4, 0xE2#8, 0#16⟩) ∧
    decodeTableWord 64 0xA201214048454C4C =
      some (.g2A Levels.zero ⟨0xA201#16, false, 10#5⟩ ⟨false, 0#4, 0x48#8, 0x45#8, 0x4C#8, 0x4C#8⟩) ∧
    decodeTableWord 64 0xA2012951A2014142 =
      some (.g2B Levels.zero ⟨0xA201#16, false, 10#5⟩ ⟨true, 1#4, 0xA201#16, 0x41#8, 0x42#8⟩) ∧
    decodeTableWord 64 0xA2014541D7500182 =
      some (.g4A Levels.zero ⟨0xA201#16, true, 10#5⟩ ⟨0#3, 60328#17, 0#5, 6#6, false, 2#5⟩) ∧
    decodeTableWord 64 0xA201A14054455354 =
      some (.g10A Levels.zero ⟨0xA201#16, false, 10#5⟩ ⟨false, 0#3, 0#1, 0x54#8, 0x45#8, 0x53#8, 0x54#8⟩) := by
  decide

/-- The fields of the 25 words below: `tp = 1`, `pty = 10`, `spec = 0b10001`, C = 0x1234, D = 0x5678 (R91, R100). -/
def restHead : Head := ⟨0xA201#16, true, 10#5⟩

def restBody : Rest := ⟨0b10001#5, 0x1234#16, 0x5678#16⟩

/-- R92, R100: `gt` in the first digit of block B, `ver` its bit 11. -/
theorem test_decode_rest :
    decodeTableWord 64 0xA2011D5112345678 = some (.g1B Levels.zero restHead restBody) ∧
    decodeTableWord 64 0xA201355112345678 = some (.g3A Levels.zero restHead restBody) ∧
    decodeTableWord 64 0xA2013D5112345678 = some (.g3B Levels.zero restHead restBody) ∧
    decodeTableWord 64 0xA2014D5112345678 = some (.g4B Levels.zero restHead restBody) ∧
    decodeTableWord 64 0xA201555112345678 = some (.g5A Levels.zero restHead restBody) ∧
    decodeTableWord 64 0xA2015D5112345678 = some (.g5B Levels.zero restHead restBody) ∧
    decodeTableWord 64 0xA201655112345678 = some (.g6A Levels.zero restHead restBody) ∧
    decodeTableWord 64 0xA2016D5112345678 = some (.g6B Levels.zero restHead restBody) ∧
    decodeTableWord 64 0xA201755112345678 = some (.g7A Levels.zero restHead restBody) ∧
    decodeTableWord 64 0xA2017D5112345678 = some (.g7B Levels.zero restHead restBody) ∧
    decodeTableWord 64 0xA201855112345678 = some (.g8A Levels.zero restHead restBody) ∧
    decodeTableWord 64 0xA2018D5112345678 = some (.g8B Levels.zero restHead restBody) ∧
    decodeTableWord 64 0xA201955112345678 = some (.g9A Levels.zero restHead restBody) ∧
    decodeTableWord 64 0xA2019D5112345678 = some (.g9B Levels.zero restHead restBody) ∧
    decodeTableWord 64 0xA201AD5112345678 = some (.g10B Levels.zero restHead restBody) ∧
    decodeTableWord 64 0xA201B55112345678 = some (.g11A Levels.zero restHead restBody) ∧
    decodeTableWord 64 0xA201BD5112345678 = some (.g11B Levels.zero restHead restBody) ∧
    decodeTableWord 64 0xA201C55112345678 = some (.g12A Levels.zero restHead restBody) ∧
    decodeTableWord 64 0xA201CD5112345678 = some (.g12B Levels.zero restHead restBody) ∧
    decodeTableWord 64 0xA201D55112345678 = some (.g13A Levels.zero restHead restBody) ∧
    decodeTableWord 64 0xA201DD5112345678 = some (.g13B Levels.zero restHead restBody) ∧
    decodeTableWord 64 0xA201E55112345678 = some (.g14A Levels.zero restHead restBody) ∧
    decodeTableWord 64 0xA201ED5112345678 = some (.g14B Levels.zero restHead restBody) ∧
    decodeTableWord 64 0xA201F55112345678 = some (.g15A Levels.zero restHead restBody) ∧
    decodeTableWord 64 0xA201FD5112345678 = some (.g15B Levels.zero restHead restBody) := by decide

/-- R108: the command codes 0 to 18, with operands of zeros. Code 19 is none. -/
theorem test_decode_commands :
    decodeTableWord 8 0 = some .create ∧
    decodeTableWord 8 1 = some .destroy ∧
    decodeTableWord 8 2 = some .clear ∧
    decodeTableWord 8 3 = some (.decodeHex []) ∧
    decodeTableWord 8 4 = some (.decodeRaw 0#64 Levels.zero) ∧
    decodeTableWord 8 5 = some (.setCorrection 0 0 0) ∧
    decodeTableWord 8 6 = some (.setProgressive 0 0) ∧
    decodeTableWord 8 7 = some (.setListener 0 0) ∧
    decodeTableWord 8 8 = some .getPi ∧
    decodeTableWord 8 9 = some .getPty ∧
    decodeTableWord 8 10 = some .getTp ∧
    decodeTableWord 8 11 = some .getTa ∧
    decodeTableWord 8 12 = some .getMs ∧
    decodeTableWord 8 13 = some .getEcc ∧
    decodeTableWord 8 14 = some .getCountry ∧
    decodeTableWord 8 15 = some .getPs ∧
    decodeTableWord 8 16 = some (.getRt 0) ∧
    decodeTableWord 8 17 = some .getPtyn ∧
    decodeTableWord 8 18 = some .getCt ∧
    decodeTableWord 8 19 = none := by decide

/-- R108: the operands in the order listed. -/
theorem test_decode_operands :
    (match decode (.command 4#5 [0xA2010148E2107469, 0, 1, 2, 3]) with
      | .ok i => i == .decodeRaw 0xA2010148E2107469#64 ⟨0#2, 1#2, 2#2, 3#2⟩
      | .error _ => false) = true ∧
    (match decode (.command 5#5 [1, 0, 3]) with
      | .ok i => i == .setCorrection 1 0 3
      | .error _ => false) = true ∧
    (match decode (.command 3#5 [0x41, 0x32]) with
      | .ok i => i == .decodeHex [0x41, 0x32]
      | .error _ => false) = true := by decide

/-! ### One step -/

/-- A fresh instance with all twelve listeners enabled, as the vectors have it. -/
def listening : State :=
  { State.reset with listen := ⟨true, true, true, true, true, true, true, true, true, true, true, true⟩ }

/-- The group word as a frame, with its levels. -/
def raw (w : Nat) (lv : Levels) : Frame := .group (BitVec.ofNat 64 w) lv

/-- The group word at levels 0. -/
def grp (w : Nat) : Frame := raw w Levels.zero

/-- The next state of a step; the state itself where there is none. -/
def after (f : Frame) (s : State) : State :=
  match stepOn f s with
  | .next t => t
  | _ => s

/-- The working copy below `n`, character and count. -/
def working (n : Nat) (b : TextBuffer) : List (Byte × Level) := (List.range n).map fun p => (b.chrAt p, b.errAt p)

/-- The published copy below `n`, character and count. -/
def published (n : Nat) (b : TextBuffer) : List (Byte × Level) :=
  (List.range n).map fun p => (b.pubChrAt p, b.pubErrAt p)

/-- A position never written. -/
def blankAt : Byte × Level := (0x20#8, 3#2)

/-- The events of the common part of a fresh instance, `tp` as given. -/
def commonVector (tp : Bool) : List Event := [.pi 0xA201#16, .tp tp, .pty 10#5]

/-- V1. -/
theorem test_g0A_events :
    nextWith (fun t => decide (t.out.events = commonVector false ++ [.ta false, .ms true, .af 89100]) &&
      decide (t.afset = BitVec.twoPow 204 15) &&
      decide (t.pi = some 0xA201#16))
      (stepOn (grp 0xA2010148E2107469) listening) = true := by decide

/-- V1. -/
theorem test_g0A_text :
    nextWith (fun t => decide (working 8 t.ps = [(0x74#8, 0#2), (0x69#8, 0#2)] ++ List.replicate 6 blankAt) &&
      decide (t.ps.conf = 2) &&
      decide (published 8 t.ps = List.replicate 8 blankAt))
      (stepOn (grp 0xA2010148E2107469) listening) = true := by decide

/-- V14. -/
theorem test_g0B_fresh :
    nextWith (fun t => decide (t.out.events = commonVector false ++ [.ta true, .ms true]) &&
      decide (working 8 t.ps = [(0x41#8, 0#2), (0x42#8, 0#2)] ++ List.replicate 6 blankAt) &&
      decide (t.afset = 0#204))
      (stepOn (grp 0xA2010958CDCD4142) listening) = true := by decide

/-- V13. -/
theorem test_g0B_address :
    nextWith (fun t => decide (t.out.events = []) &&
      decide (working 8 t.ps = [(0x74#8, 0#2), (0x69#8, 0#2), (0x20#8, 0#2), (0x6E#8, 0#2)] ++ List.replicate 4 blankAt) &&
      decide (t.ps.conf = 4))
      (stepOn (grp 0xA2010949A201206E) (after (grp 0xA2010148E2107469) listening)) = true := by decide

/-- V20, without its test parameter COUNTRY_LOOKUP. -/
theorem test_g1A_ecc :
    nextWith (fun t => decide (t.ecc = some 0xE2#8) &&
      decide (t.pi = some 0xA201#16))
      (stepOn (grp 0xA201114000E20000) listening) = true := by decide

/-- V22: variant 1. -/
theorem test_g1A_variant :
    nextWith (fun t => decide (t.ecc = some 0xE2#8) &&
      decide (t.out.events = commonVector false))
      (stepOn (grp 0xA201114010E30000) { listening with ecc := some 0xE2#8 }) = true := by decide

/-- V50. -/
theorem test_g2A_segment :
    nextWith (fun t => decide (t.out.events = commonVector false ++ [.rt false]) &&
      decide (t.rtActive = some false) &&
      decide (published 6 t.rt0 = [(0x48#8, 0#2), (0x45#8, 0#2), (0x4C#8, 0#2), (0x4C#8, 0#2), blankAt, blankAt]) &&
      decide (t.rt0.conf = 4))
      (stepOn (grp 0xA201214048454C4C) { listening with prog := ⟨false, true⟩ }) = true := by decide

/-- V57: the INFO gate drops the toggle too. -/
theorem test_g2A_gate :
    nextWith (fun t => decide (t.rtActive = some false) &&
      decide (t.rt1 = TextBuffer.blank 64) &&
      decide (t.out.events = commonVector false))
      (stepOn (raw 0xA201215042424242 ⟨0#2, 1#2, 0#2, 0#2⟩) { listening with rtActive := some false }) = true := by decide

/-- V55. -/
theorem test_g2B_segment :
    nextWith (fun t => decide (t.out.events = commonVector false) &&
      decide (t.rtActive = some true) &&
      decide (working 5 t.rt1 = [blankAt, blankAt, (0x41#8, 0#2), (0x42#8, 0#2), blankAt]) &&
      decide (t.rt1.efflen = 32 ∧ t.rt1.conf = 2))
      (stepOn (grp 0xA2012951A2014142) listening) = true := by decide

/-- V81. -/
theorem test_g4A_valid :
    nextWith (fun t => decide (t.out.events = commonVector true ++ [.ct ⟨2024, 1, 19, 0, 6, 2⟩]) &&
      decide (t.ct = some ⟨2024, 1, 19, 0, 6, 2⟩))
      (stepOn (grp 0xA2014541D7500182) listening) = true := by decide +kernel

/-- V82. -/
theorem test_g4A_hour24 :
    nextWith (fun t => decide (t.out.events = commonVector true) &&
      decide (t.ct = none) &&
      decide (t.out.ok = true))
      (stepOn (grp 0xA2014541D7518182) listening) = true := by decide

/-- V60. -/
theorem test_g10A_segment :
    nextWith (fun t => decide (working 8 t.ptyn = [(0x54#8, 0#2), (0x45#8, 0#2), (0x53#8, 0#2), (0x54#8, 0#2)] ++ List.replicate 4 blankAt) &&
      decide (t.ptyn.conf = 4) &&
      decide (published 8 t.ptyn = List.replicate 8 blankAt))
      (stepOn (grp 0xA201A14054455354) listening) = true := by decide

/-- V61. -/
theorem test_g10A_publishes :
    nextWith (fun t => decide (t.out.events = [.ptyn]) &&
      decide (published 8 t.ptyn =
      [(0x54#8, 0#2), (0x45#8, 0#2), (0x53#8, 0#2), (0x54#8, 0#2), (0x50#8, 0#2), (0x54#8, 0#2), (0x59#8, 0#2), (0x4E#8, 0#2)]))
      (stepOn (grp 0xA201A1415054594E) (after (grp 0xA201A14054455354) listening)) = true := by decide

/-- R150 to R175, as V4, V5, V7 and V96: the 25 other group codes change PI, TP and PTY only, with every bit of
`spec`, C and D set. -/
theorem test_rest_common :
    ((commonOnly ⟨3#2, 3#2, 3#2, 3#2⟩ ⟨0xFFFF#16, true, 31#5⟩ ⟨31#5, 0xFFFF#16, 0xFFFF#16⟩).all fun i =>
      nextWith (fun t => decide (t = { listening with
          pi := some 0xFFFF#16, tp := some true, pty := some 31#5
          out := ⟨true, .nothing, [.pi 0xFFFF#16, .tp true, .pty 31#5]⟩ }))
        (exec i listening)) = true := by decide

/-- V17: the scalars whatever the levels, PS behind the gate. -/
theorem test_decodeRaw_levels :
    nextWith (fun t => decide (t.out.events = commonVector false ++ [.ta false, .ms true, .af 89100]) &&
      decide (t.ps = TextBuffer.blank 8))
      (stepOn (.command 4#5 [0xA2010148E2107469, 3, 3, 3, 3]) listening) = true := by decide

/-- V12: the string "a2010148e2107469". -/
theorem test_decodeHex_lower :
    nextWith (fun t => decide (t.out.ok = true) &&
      decide (t.pi = some 0xA201#16) &&
      decide (t.ps.conf = 2))
      (stepOn (.command 3#5 [0x61, 0x32, 0x30, 0x31, 0x30, 0x31, 0x34, 0x38, 0x65, 0x32, 0x31, 0x30, 0x37, 0x34, 0x36, 0x39]) listening) = true := by decide

/-- V11: the string "A2010148E210746G". -/
theorem test_decodeHex_malformed :
    nextWith (fun t => decide (t = { listening with out := ⟨false, .nothing, []⟩ }))
      (stepOn (.command 3#5 [0x41, 0x32, 0x30, 0x31, 0x30, 0x31, 0x34, 0x38, 0x45, 0x32, 0x31, 0x30, 0x37, 0x34, 0x36, 0x47]) listening) = true := by decide

/-- V110: nothing survives DESTROY and CREATE. -/
theorem test_create :
    nextWith (fun t => decide (t = State.reset))
      (stepOn (.command 0#5 []) { listening with life := .destroyed, pi := some 1#16 }) = true := by decide

/-- R322. -/
theorem test_destroy :
    nextWith (fun t => decide (t.life = .destroyed) &&
      decide (t.out.ok = true))
      (stepOn (.command 1#5 []) State.reset) = true := by decide

/-- R422, 93 U3: a destroyed instance refuses. -/
theorem test_destroyed :
    stepOn (.command 8#5 []) { State.reset with life := .destroyed } = .refused .destroyed := by rfl

/-- V103, V109. -/
theorem test_clear :
    nextWith (fun t => decide (t = { listening with thr := ⟨0#2, 0#2, 0#2, 3#2⟩ }))
      (stepOn (.command 2#5 []) (after (grp 0xA2010148E2107469) { listening with thr := ⟨0#2, 0#2, 0#2, 3#2⟩ })) = true := by decide

/-- V105. -/
theorem test_setCorrection :
    nextWith (fun t => decide (t.thr = ⟨0#2, 0#2, 0#2, 3#2⟩) &&
      decide (t.out.ok = true))
      (stepOn (.command 5#5 [1, 1, 3]) State.reset) = true := by decide

/-- V104. -/
theorem test_setCorrection_rejected :
    ([[0, 1, 4], [2, 0, 1], [1, 2, 1]].all fun ops =>
      nextWith (fun t => decide (t = rejected listening)) (stepOn (.command 5#5 ops) listening)) = true := by decide

/-- V109. -/
theorem test_setProgressive :
    nextWith (fun t => decide (t.prog = ⟨true, false⟩) &&
      decide (t.out.ok = true))
      (stepOn (.command 6#5 [0, 1]) State.reset) = true := by decide

/-- V106. -/
theorem test_setProgressive_rejected :
    ([[2, 1], [0, 2]].all fun ops =>
      nextWith (fun t => decide (t = rejected listening)) (stepOn (.command 6#5 ops) listening)) = true := by decide

/-- R329: kind 11 is CT. -/
theorem test_setListener :
    nextWith (fun t => decide (t.listen.ct = true) &&
      decide (t = { State.reset with listen := t.listen }))
      (stepOn (.command 7#5 [11, 1]) State.reset) = true := by decide

/-- V107. -/
theorem test_setListener_rejected :
    nextWith (fun t => decide (t = rejected listening))
      (stepOn (.command 7#5 [12, 1]) listening) = true := by decide

/-- An instance that knows every scalar. -/
def knowing : State :=
  { listening with pi := some 0xA201#16, pty := some 10#5, tp := some true, ta := some false, ms := some true,
                   ecc := some 0xE2#8, country := some ⟨1⟩, ct := some ⟨2024, 1, 19, 0, 6, 2⟩ }

/-- R331. -/
theorem test_getPi :
    nextWith (fun t => decide (t = resultOnly knowing (.pi (some 0xA201#16))))
      (stepOn (.command 8#5 []) knowing) = true := by decide

/-- R332. -/
theorem test_getPty :
    nextWith (fun t => decide (t = resultOnly knowing (.pty (some 10#5))))
      (stepOn (.command 9#5 []) knowing) = true := by decide

/-- R333. -/
theorem test_getTp :
    nextWith (fun t => decide (t = resultOnly knowing (.tp (some true))))
      (stepOn (.command 10#5 []) knowing) = true := by decide

/-- R334. -/
theorem test_getTa :
    nextWith (fun t => decide (t = resultOnly knowing (.ta (some false))))
      (stepOn (.command 11#5 []) knowing) = true := by decide

/-- R335. -/
theorem test_getMs :
    nextWith (fun t => decide (t = resultOnly knowing (.ms (some true))))
      (stepOn (.command 12#5 []) knowing) = true := by decide

/-- R336. -/
theorem test_getEcc :
    nextWith (fun t => decide (t = resultOnly knowing (.ecc (some 0xE2#8))))
      (stepOn (.command 13#5 []) knowing) = true := by decide

/-- R337. -/
theorem test_getCountry :
    nextWith (fun t => decide (t = resultOnly knowing (.country (some ⟨1⟩))))
      (stepOn (.command 14#5 []) knowing) = true := by decide

/-- V100, V101: a fresh instance answers with the sentinels. -/
theorem test_fresh_accessors :
    ([(8#5, Value.pi none), (9#5, .pty none), (10#5, .tp none), (11#5, .ta none), (12#5, .ms none),
      (13#5, .ecc none), (14#5, .country none), (18#5, .clock none)].all fun (code, v) =>
        nextWith (fun t => decide (t = resultOnly State.reset v)) (stepOn (.command code []) State.reset)) = true := by
  decide

/-- V101. -/
theorem test_getPs :
    nextWith (fun t => decide (t.out.value = .text ⟨List.replicate 8 0x20, List.replicate 8 3#2, 8⟩))
      (stepOn (.command 15#5 []) State.reset) = true := by decide

/-- R244: position 0 first. -/
theorem test_getPs_published :
    nextWith (fun t => decide (t.out.value = .text ⟨List.replicate 8 0x20, [0#2, 3#2, 3#2, 3#2, 3#2, 3#2, 3#2, 1#2], 8⟩))
      (stepOn (.command 15#5 []) { State.reset with ps := { TextBuffer.blank 8 with pubErr := [(0, 0#2), (7, 1#2)] } }) = true := by decide

/-- V101. -/
theorem test_getPtyn :
    nextWith (fun t => decide (t.out.value = .text ⟨List.replicate 8 0x20, List.replicate 8 3#2, 8⟩))
      (stepOn (.command 17#5 []) State.reset) = true := by decide

/-- R339: 64 positions of the buffer named, active or not. -/
theorem test_getRt :
    nextWith (fun t => decide (t.out.value = .text ⟨List.replicate 64 0x20, List.replicate 63 3#2 ++ [0#2], 64⟩))
      (stepOn (.command 16#5 [1]) { State.reset with rt1 := { TextBuffer.blank 32 with pubErr := [(63, 0#2)] } }) = true := by decide

/-- V102. -/
theorem test_getRt_rejected :
    nextWith (fun t => decide (t = rejected listening))
      (stepOn (.command 16#5 [2]) listening) = true := by decide

/-- V81, V112. -/
theorem test_getCt :
    nextWith (fun t => decide (t = resultOnly knowing (.clock (some ⟨2024, 1, 19, 0, 6, 60⟩))))
      (stepOn (.command 18#5 []) knowing) = true := by decide

/-- The cell a buffer of one character `x` at count `n` holds at position 0 after `c` is offered at level `i`, and the
counter from 10 (both positions of the segment alike). -/
def writeCase (t n : Level) (x : Byte) (i : Level) (c : Byte) : Byte × Level × Nat :=
  let b : TextBuffer := { (((TextBuffer.blank 8).memWrite 0 x n).memWrite 1 x n) with conf := 10 }
  let b' := b.writeSegment false t 0 c c i
  (b'.chrAt 0, b'.errAt 0, b'.conf)

/-- V30 to V41: the write rule, row by row. -/
theorem test_write_rule :
    [writeCase 1 2 0x41 1 0x42, writeCase 1 1 0x41 1 0x42, writeCase 0 0 0x41 0 0x42, writeCase 1 1 0x41 1 0x41,
     writeCase 1 0 0x41 1 0x41, writeCase 1 0 0x41 1 0x42, writeCase 1 0 0x41 2 0x42, writeCase 1 3 0x20 2 0x42,
     writeCase 1 3 0x20 3 0x42, writeCase 3 2 0x41 3 0x42, writeCase 0 3 0x20 2 0x42, writeCase 1 2 0x41 1 0x41] =
    [(0x42, 1, 12), (0x41, 1, 12), (0x41, 0, 12), (0x41, 1, 12),
     (0x41, 0, 12), (0x42, 1, 0), (0x41, 0, 10), (0x42, 2, 10),
     (0x20, 3, 10), (0x42, 3, 0), (0x42, 2, 10), (0x41, 1, 12)] := by decide

/-- V70 to V78: the AF codes of block C, as events. -/
theorem test_af_codes :
    ([(0xE210, [89100]), (0x1ACD, [90100]), (0xE0FA, []), (0x0101, [87600]), (0xCCCD, [107900]), (0xFA10, [89100]),
      (0x1011, [89100, 89200]), (0xCDCE, []), (0xFFFF, []), (0x0000, [])].all fun (c, khz) =>
        nextWith (fun t => decide (t.out.events.drop 5 = khz.map Event.af))
          (stepOn (grp (0xA201014800002020 + c * 65536)) listening)) = true := by decide

/-- The dates of 95_test_vectors 2.8, `civil_from_mjd` alone. -/
theorem test_civil_from_mjd :
    [0, 15078, 15079, 40587, 51543, 51544, 51603, 51604, 58849, 59214, 60328, 60369, 60370, 88127, 88128, 88492,
     131071].map civilFromMjd =
    [(1858, 11, 17), (1900, 2, 28), (1900, 3, 1), (1970, 1, 1), (1999, 12, 31), (2000, 1, 1), (2000, 2, 29),
     (2000, 3, 1), (2020, 1, 1), (2020, 12, 31), (2024, 1, 19), (2024, 2, 29), (2024, 3, 1), (2100, 2, 28),
     (2100, 3, 1), (2101, 2, 28), (2217, 9, 27)] := by decide

/-! ### Witnesses: a state and operands that meet the hypotheses of each statement -/

/-- The next state of an instruction; the state itself where there is none. -/
def ran (i : Instr) (s : State) : State :=
  match exec i s with
  | .next t => t
  | _ => s

/-- A head for the witnesses. -/
def wHead : Head := ⟨0xA201#16, false, 10#5⟩

/-- A group 0A that brings AF codes 1 and 204 and writes PS position 6. -/
def w0A : Group0A := ⟨true, false, false, 3#2, 1#8, 204#8, 0x41#8, 0x42#8⟩

/-- A group 0A that brings AF code 1 twice. -/
def w0ATwice : Group0A := ⟨true, false, false, 3#2, 1#8, 1#8, 0x41#8, 0x42#8⟩

/-- A destroyed instance. -/
def wDestroyed : State := { State.reset with life := .destroyed }

theorem witness_DestroyEndsTheLife :
    State.reset.life = .live := by decide

theorem witness_DestroyedRefusesAllButCreate :
    wDestroyed.life = .destroyed ∧ Instr.destroy ≠ .create ∧ Instr.getCt ≠ .create := by decide

theorem witness_ClearEmptiesTheDecodedState :
    listening.life = .live := by decide

theorem witness_StepRunsTheDecodedInstruction :
    ({ State.reset with inbox := [.command 8#5 []] } : State).inbox = .command 8#5 [] :: [] ∧
    decode (.command 8#5 []) = .ok .getPi := ⟨rfl, rfl⟩

theorem witness_IdleStepKeepsEverything :
    State.reset.inbox = [] := by decide

/-- Each kind of ill-formed frame, at the first value outside its range. -/
theorem witness_IllFormedFramesAreRefused :
    ([.command 19#5 [], .command 31#5 [1], .command 8#5 [0], .command 5#5 [1, 1], .command 4#5 [2 ^ 64, 0, 0, 0, 0],
      .command 4#5 [0, 0, 0, 0, 4]] : List Frame).all (fun f =>
        decide (({ State.reset with inbox := f :: [] } : State).inbox = f :: []) && !f.wf) = true := by decide

theorem witness_LiveInstanceAnswersEveryCommand :
    ({ State.reset with inbox := [.command 18#5 []] } : State).ready = true ∧
    ({ State.reset with inbox := [.command 4#5 [2 ^ 64 - 1, 3, 3, 3, 3]] } : State).ready = true ∧
    ({ State.reset with inbox := [.command 5#5 [9, 9, 9]] } : State).ready = true := by decide

theorem witness_InstructionsLeaveTheStreamAlone :
    exec .getPi { State.reset with inbox := [.command 8#5 []] } =
      .next (ran .getPi { State.reset with inbox := [.command 8#5 []] }) := rfl

theorem witness_EncodeOfDecode :
    Frame.wf (.group 0xFFFFFFFFFFFFFFFF#64 ⟨3#2, 3#2, 3#2, 3#2⟩) = true ∧ Frame.wf (.command 18#5 []) = true ∧
    Frame.wf (.command 4#5 [2 ^ 64 - 1, 3, 3, 3, 3]) = true ∧ Frame.wf (.command 3#5 [1, 2]) = true := by decide

/-- Both ends of the range of `k`. -/
theorem witness_MaskAndMatchSelectTheGroupCode :
    groupCode (decodeGroup 0xA2010148E2107469#64 Levels.zero) = some 0 ∧
    groupCode (decodeGroup 0xFFFFFFFFFFFFFFFF#64 Levels.zero) = some 31 ∧ 31 < 32 := by decide

theorem witness_EveryStepKeepsTheStateWellFormed :
    State.reset.wf = true ∧
    step { State.reset with inbox := [grp 0xA2014541D7500182] } = .next (after (grp 0xA2014541D7500182) State.reset) := ⟨by decide, rfl⟩

theorem witness_EveryStepKeepsUnknownsTogether :
    State.reset.knownTogether = true ∧
    step { State.reset with inbox := [grp 0xA201214048454C4C] } = .next (after (grp 0xA201214048454C4C) State.reset) := ⟨by decide, rfl⟩

theorem witness_EveryDecodeSetsTheCommonRegisters :
    State.reset.life = .live ∧ (List.replicate 16 0x46).length = 16 ∧ ∀ ch ∈ List.replicate 16 0x46, isHexDigit ch := ⟨by decide, by decide, by simp [isHexDigit]⟩

theorem witness_PtyEventExactlyOnChange :
    listening.life = .live ∧ listening.listen.pty = true ∧ listening.pty ≠ some ((blockB 0xA2010148E2107469#64).extractLsb' 5 5) := by decide

theorem witness_DecodeRawRunsTheGroupInstruction :
    State.reset.life = .live := by decide

/-- Both ends of each range of digits. -/
theorem witness_HexStringDecodesAsItsNumber :
    State.reset.life = .live ∧
    ([0x30, 0x39, 0x41, 0x46, 0x61, 0x66, 0x30, 0x39, 0x41, 0x46, 0x61, 0x66, 0x30, 0x39, 0x41, 0x46] : List Nat).length = 16 ∧
    ∀ ch ∈ ([0x30, 0x39, 0x41, 0x46, 0x61, 0x66, 0x30, 0x39, 0x41, 0x46, 0x61, 0x66, 0x30, 0x39, 0x41, 0x46] : List Nat),
      isHexDigit ch := ⟨by decide, by decide, by simp [isHexDigit]⟩

/-- Lengths beside 16 and characters beside each range of digits. -/
theorem witness_MalformedStringChangesNothing :
    State.reset.life = .live ∧ (List.replicate 15 0x30).length ≠ 16 ∧ (List.replicate 17 0x30).length ≠ 16 ∧
    ¬ isHexDigit 0x2F ∧ ¬ isHexDigit 0x3A ∧ ¬ isHexDigit 0x40 ∧ ¬ isHexDigit 0x47 ∧ ¬ isHexDigit 0x60 ∧ ¬ isHexDigit 0x67 := ⟨by decide, by decide, by decide, by simp [isHexDigit]⟩

theorem witness_UnrecognisedGroupsDoTheCommonPartOnly :
    State.reset.life = .live ∧ Instr.g1B Levels.zero restHead restBody ∈ commonOnly Levels.zero restHead restBody ∧
    Instr.g15B Levels.zero restHead restBody ∈ commonOnly Levels.zero restHead restBody := by decide

theorem witness_CommonEventsInOrder :
    State.reset.life = .live ∧ Instr.g15B Levels.zero restHead restBody ∈ commonOnly Levels.zero restHead restBody := by decide

/-- A group of type 0 and one of type 1. -/
theorem witness_OnlyGroupZeroWritesTaAndMs :
    State.reset.life = .live ∧ (blockB 0xA2010958CDCD4142#64).extractLsb' 12 4 = 0#4 ∧
    (blockB 0xA2011948A2011234#64).extractLsb' 12 4 ≠ 0#4 := by decide

/-- Both sides of the INFO gate. -/
theorem witness_Group0AResult :
    State.reset.life = .live ∧ State.reset.wf = true ∧ Levels.zero.b ≤ State.reset.thr.psInfo ∧
    State.reset.thr.psInfo < (⟨0#2, 1#2, 0#2, 0#2⟩ : Levels).b := by decide

/-- Both sides of the INFO gate. -/
theorem witness_Group0BResult :
    State.reset.life = .live ∧ State.reset.wf = true ∧ Levels.zero.b ≤ State.reset.thr.psInfo ∧
    State.reset.thr.psInfo < (⟨0#2, 1#2, 0#2, 0#2⟩ : Levels).b := by decide

theorem witness_GroupZeroEventsInOrder :
    listening.life = .live := by decide

/-- Codes 1 and 204 are brought, listened to and new; the codes beside them stand for nothing; code 1
in both bytes of block C is reported too (V74). -/
theorem witness_AfSetOnlyGrows :
    exec (.g0A Levels.zero wHead w0A) listening = .next (ran (.g0A Levels.zero wHead w0A) listening) ∧
    afMember (ran (.g0A Levels.zero wHead w0A) listening).afset 204#8 = true ∧
    Event.af 87600 ∈ (ran (.g0A Levels.zero wHead w0A) listening).out.events ∧
    listening.listen.af = true ∧ isFrequencyCode 1#8 = true ∧ isFrequencyCode 204#8 = true ∧
    isFrequencyCode 0#8 = false ∧ isFrequencyCode 205#8 = false ∧ afMember listening.afset 1#8 = false ∧
    Instr.g0A Levels.zero wHead w0A ≠ .create ∧ Instr.g0A Levels.zero wHead w0A ≠ .clear ∧
    Event.af 87600 ∈ (ran (.g0A Levels.zero wHead w0ATwice) listening).out.events ∧
    exec (.g0A Levels.zero wHead w0ATwice) listening = .next (ran (.g0A Levels.zero wHead w0ATwice) listening) := ⟨rfl, by decide, by decide, by decide, by decide, by decide, by decide, by decide, by decide, by decide, by decide,
    by decide, rfl⟩

theorem witness_EccStepWritesAndReports :
    listening.life = .live ∧ (blockB 0xA201114000E20000#64).extractLsb' 11 5 = 2#5 ∧
    (blockC 0xA201114000E20000#64).extractLsb' 12 3 = 0#3 ∧ listening.listen.ecc = true ∧
    listening.ecc ≠ some ((blockC 0xA201114000E20000#64).extractLsb' 0 8) := by decide

theorem witness_Group1AResult :
    State.reset.life = .live ∧ (⟨0#5, false, 0#3, 0#4, 0xE2#8, 0#16⟩ : Group1A).variant = 0#3 ∧
    (⟨0#5, true, 1#3, 0#4, 0xE2#8, 0#16⟩ : Group1A).variant ≠ 0#3 := by decide

/-- Both sides of the INFO gate. -/
theorem witness_Group2AResult :
    State.reset.life = .live ∧ State.reset.wf = true ∧ Levels.zero.b ≤ State.reset.thr.rtInfo ∧
    State.reset.thr.rtInfo < (⟨0#2, 1#2, 0#2, 0#2⟩ : Levels).b := by decide

/-- Both sides of the INFO gate. -/
theorem witness_Group2BResult :
    State.reset.life = .live ∧ State.reset.wf = true ∧ Levels.zero.b ≤ State.reset.thr.rtInfo ∧
    State.reset.thr.rtInfo < (⟨0#2, 1#2, 0#2, 0#2⟩ : Levels).b := by decide

/-- Both sides of the INFO gate. -/
theorem witness_Group10AResult :
    State.reset.life = .live ∧ State.reset.wf = true ∧ Levels.zero.b ≤ State.reset.thr.psInfo ∧
    State.reset.thr.psInfo < (⟨0#2, 1#2, 0#2, 0#2⟩ : Levels).b := by decide

theorem witness_ValidClockGroupWritesTheSnapshot :
    State.reset.life = .live ∧ (⟨0#3, 131071#17, 23#5, 59#6, true, 31#5⟩ : Group4A).hour.toNat ≤ 23 ∧
    (⟨0#3, 131071#17, 23#5, 59#6, true, 31#5⟩ : Group4A).minute.toNat ≤ 59 := by decide

theorem witness_InvalidClockGroupLeavesCt :
    State.reset.life = .live ∧ 23 < (⟨0#3, 0#17, 24#5, 0#6, false, 0#5⟩ : Group4A).hour.toNat ∧
    59 < (⟨0#3, 0#17, 0#5, 60#6, false, 0#5⟩ : Group4A).minute.toNat := by decide

theorem witness_MjdCountsCalendarDays :
    0 < 131071 ∧ 131070 < 131071 ∧ civilFromMjd 131071 = nextDay (civilFromMjd 131070) := by decide

/-- The first and the last segment, and the tie of a blank position at level 3. -/
theorem witness_WriteRuleWithItsTie :
    State.reset.wf = true ∧ 0 + 1 < BufId.ps.len ∧ 6 + 1 < BufId.ps.len ∧ 62 + 1 < (BufId.rt true).len ∧
    (State.reset.buf .ps).errAt 6 = 3#2 ∧ BufId.ptyn ≠ .ps := by decide

theorem witness_SegmentCountsAndPublishes :
    (TextBuffer.blank 8).wf 8 = true ∧ 0 + 1 < 8 ∧ 6 + 1 < 8 ∧
    (TextBuffer.blank 64).wf 64 = true ∧ 62 + 1 < 64 := by decide

/-- PS holds `A` without error at position 0, RT 0 too and is active, and the thresholds admit level 1. -/
def wStable : State :=
  { State.reset with
    ps := (TextBuffer.blank 8).memWrite 0 0x41#8 0#2
    rt0 := (TextBuffer.blank 64).memWrite 0 0x41#8 0#2
    rtActive := some true
    thr := ⟨3#2, 1#2, 3#2, 1#2⟩ }

/-- A group 0B that offers `B` at PS position 0. -/
def w0B : Instr := .g0B ⟨0#2, 0#2, 0#2, 1#2⟩ wHead ⟨false, false, false, 0#2, 0#16, 0x42#8, 0x42#8⟩

/-- A group 2A that makes RT 0 active. -/
def w2A : Instr := .g2A Levels.zero wHead ⟨false, 1#4, 0x42#8, 0x42#8, 0x42#8, 0x42#8⟩

/-- A regressing write, a toggle and a CLEAR, each of which changes a character at count 0. -/
theorem witness_StableCharacterChangesOnlyByRegressOrReset :
    wStable.wf = true ∧
    exec w0B wStable = .next (ran w0B wStable) ∧ (wStable.buf .ps).errAt 0 = 0#2 ∧
    ((ran w0B wStable).buf .ps).chrAt 0 ≠ (wStable.buf .ps).chrAt 0 ∧
    exec w2A wStable = .next (ran w2A wStable) ∧ (wStable.buf (.rt false)).errAt 0 = 0#2 ∧
    ((ran w2A wStable).buf (.rt false)).chrAt 0 ≠ (wStable.buf (.rt false)).chrAt 0 ∧
    exec .clear wStable = .next (ran .clear wStable) ∧
    ((ran .clear wStable).buf .ps).chrAt 0 ≠ (wStable.buf .ps).chrAt 0 := ⟨by decide, rfl, by decide, by decide, rfl, by decide, by decide, rfl, by decide⟩

theorem witness_HexDecodingFreezesNames :
    wStable.life = .live ∧ wStable.wf = true ∧ (wStable.buf .ps).errAt 0 = 0#2 := by decide

theorem witness_PtynSegmentsInEitherOrder :
    State.reset.life = .live ∧ State.reset.ptyn = TextBuffer.blank 8 ∧
    (⟨false, 0#3, 0#1, 0x54#8, 0x45#8, 0x53#8, 0x54#8⟩ : Group10A).addr = 0#1 ∧
    (⟨false, 0#3, 1#1, 0x50#8, 0x54#8, 0x59#8, 0x4E#8⟩ : Group10A).addr = 1#1 := by decide

/-- The last valid and the first invalid code of each operand. -/
theorem witness_SetCorrectionSetsOneThreshold :
    State.reset.life = .live ∧ kindOfCode 0 = some .ps ∧ kindOfCode 1 = some .rt ∧ axisOfCode 0 = some .info ∧
    axisOfCode 1 = some .data ∧ 3 < 4 ∧ kindOfCode 2 = none ∧ axisOfCode 2 = none := by decide

/-- The last valid and the first invalid code of each operand. -/
theorem witness_SetProgressiveSetsOneFlag :
    State.reset.life = .live ∧ kindOfCode 1 = some .rt ∧ kindOfCode 2 = none ∧ 1 < 2 := by decide

/-- Kinds 0 and 11 are set, 12 is rejected, and so is `enabled` 2. -/
theorem witness_SetListenerSetsOneBit :
    State.reset.life = .live ∧ 11 < 12 ∧ 0 < 12 ∧ 1 < 2 := by decide

theorem witness_OperandCodes :
    1 < 2 ∧ 11 < 12 := by decide

theorem witness_SettersChangeOnlyTheirRegister :
    State.reset.life = .live := by decide

theorem witness_ScalarAccessorsReadTheirRegister :
    knowing.life = .live := by decide

theorem witness_NameAccessorsViewThePublishedCopy :
    State.reset.life = .live := by decide

/-- Flags 0 and 1 name buffers, 2 does not. -/
theorem witness_GetRtViewsTheNamedBuffer :
    State.reset.life = .live ∧ 1 < 2 := by decide

theorem witness_GetCtReportsMinutes :
    knowing.life = .live ∧ State.reset.ct = none ∧ knowing.ct = some ⟨2024, 1, 19, 0, 6, 2⟩ ∧
    (⟨2024, 1, 19, 0, 6, 2⟩ : ClockTime).valid = true ∧ (⟨2217, 9, 27, 23, 59, -31⟩ : ClockTime).valid = true := by decide

/-- An instruction with a group and one without. -/
theorem witness_RegistersAreWrittenOnlyByTheirGroups :
    exec (.g0A Levels.zero wHead w0A) listening = .next (ran (.g0A Levels.zero wHead w0A) listening) ∧
    groupOf (.g0A Levels.zero wHead w0A) = some (pack 0#5 wHead (payload0A w0A)) ∧
    exec (.setListener 11 1) listening = .next (ran (.setListener 11 1) listening) ∧
    groupOf (.setListener 11 1) = none ∧ Instr.setListener 11 1 ≠ .create ∧ Instr.setListener 11 1 ≠ .clear := ⟨rfl, rfl, rfl, rfl, by decide, by decide⟩

theorem witness_ControlRegistersAreWrittenOnlyByTheirCommand :
    exec (.setListener 11 1) State.reset = .next (ran (.setListener 11 1) State.reset) ∧
    Instr.setListener 11 1 ≠ .create ∧ Instr.setListener 11 1 ≠ .destroy ∧
    (∀ kind axis level, Instr.setListener 11 1 ≠ .setCorrection kind axis level) ∧
    (∀ kind enabled, Instr.setListener 11 1 ≠ .setProgressive kind enabled) ∧
    (∀ k enabled, Instr.getPi ≠ .setListener k enabled) := ⟨rfl, by decide, by decide, by simp, by simp, by simp⟩

theorem witness_EventsNeedTheirListenerAndADecode :
    exec (.g0A Levels.zero wHead w0A) listening = .next (ran (.g0A Levels.zero wHead w0A) listening) ∧
    Event.ta true ∈ (ran (.g0A Levels.zero wHead w0A) listening).out.events ∧
    exec .getPi listening = .next (ran .getPi listening) ∧ groupOf .getPi = none := ⟨rfl, by decide, rfl, rfl⟩

theorem witness_EventsComeInDecodingOrder :
    exec (.decodeRaw 0xA2010148E2107469#64 Levels.zero) listening =
      .next (ran (.decodeRaw 0xA2010148E2107469#64 Levels.zero) listening) ∧
    (ran (.decodeRaw 0xA2010148E2107469#64 Levels.zero) listening).out.events.length = 6 := ⟨rfl, by decide⟩

theorem witness_ListenersNeverChangeTheState :
    exec (.g0A Levels.zero wHead w0A) listening = .next (ran (.g0A Levels.zero wHead w0A) listening) := rfl

theorem witness_LevelsReachTextOnly :
    State.reset.life = .live := by decide

theorem witness_RejectedCommandsChangeNothing :
    exec (.getRt 2) listening = .next (ran (.getRt 2) listening) ∧ (ran (.getRt 2) listening).out.ok = false := ⟨rfl, by decide⟩

end Sys2Proof.Tests
end

