-- ==== Sys2Proof/Proofs/Encoding.lean ====
section
/-!
PROOFS. The opcode of a group word (30_encoding R92): the decoder selects by it, and the table's mask keeps exactly its
five bits, each where the word has it.
-/

namespace Sys2Proof.Claims

/-- The decoder selects the group instruction by the opcode alone. -/
theorem groupCode_decodeGroup (g : Group) (lv : Levels) :
    groupCode (decodeGroup g lv) = some (opcode g).toNat := by
  have hlt : (opcode g).toNat < 32 := (opcode g).isLt
  unfold decodeGroup
  generalize (opcode g).toNat = code at hlt ⊢
  interval_cases code <;> rfl

/-- The table's mask has a one at bits 43 to 47, the bits of the opcode, and nowhere else. -/
theorem getLsbD_opcodeMask (i : Nat) :
    (0x0000F80000000000#64).getLsbD i = (decide (43 ≤ i) && decide (i < 48)) := by
  have hmask : 0x0000F80000000000#64 = BitVec.ofNat 64 (2 ^ 5 - 1) <<< 43 := by decide
  rw [hmask, Bool.eq_iff_iff]
  simp only [BitVec.getLsbD_shiftLeft, BitVec.getLsbD_ofNat, Nat.testBit_two_pow_sub_one, Bool.and_eq_true,
    Bool.not_eq_true', decide_eq_true_eq, decide_eq_false_iff_not]
  omega

/-- Masking a word keeps its opcode in place and clears every other bit. -/
theorem and_opcodeMask (g : Group) :
    g &&& 0x0000F80000000000#64 = (opcode g).setWidth 64 <<< 43 := by
  apply BitVec.eq_of_getLsbD_eq
  intro i hi
  rw [BitVec.getLsbD_and, getLsbD_opcodeMask, BitVec.getLsbD_shiftLeft, BitVec.getLsbD_setWidth, opcode,
    BitVec.getLsbD_extractLsb']
  by_cases hlow : i < 43
  · have : ¬ 43 ≤ i := by omega
    simp [hlow, this]
  · have hpos : 43 + (i - 43) = i := by omega
    have hhigh : i - 43 < 5 ↔ i < 48 := by omega
    have hword : i - 43 < 64 := by omega
    simp [hlow, hpos, hhigh, hword, hi, Nat.le_of_not_lt hlow, Bool.and_comm]

/-- Numbers of five bits stay distinct when they are moved to the place of the opcode. -/
theorem opcodePlace_inj {a b : Nat} (ha : a < 32) (hb : b < 32) :
    BitVec.ofNat 64 a <<< 43 = BitVec.ofNat 64 b <<< 43 ↔ a = b := by
  simp only [← BitVec.toNat_inj, BitVec.toNat_shiftLeft, BitVec.toNat_ofNat, Nat.shiftLeft_eq]
  omega

/-- Settles O13: the masked word is the opcode in its place, and the opcode is the code of the decoded instruction. -/
theorem maskAndMatchSelectTheGroupCode : Obligations.MaskAndMatchSelectTheGroupCode := by
  intro g lv k hk
  have hlt : (opcode g).toNat < 32 := (opcode g).isLt
  have hplace : (opcode g).setWidth 64 = BitVec.ofNat 64 (opcode g).toNat := (BitVec.ofNat_toNat 64 _).symm
  rw [groupCode_decodeGroup, and_opcodeMask, hplace, opcodePlace_inj hlt hk, Option.some.injEq]

end Sys2Proof.Claims
end

