-- ==== Sys2Proof/Proofs/GroupDecoder.lean ====
section
/-!
PROOFS. The decoder of a group (40_group_decoder): what the field decoders leave of the common part (R142), the text
form that is rejected (R141), the 25 codes without a field decoder (R150).
-/

namespace Sys2Proof.Claims

open Sys2Proof.Machine

/-! ### The field decoders leave the common part alone -/

/-- The kinds of event the common part emits (R145 to R147). -/
def isCommonKind : EventKind → Bool
  | .pi | .tp | .pty => true
  | _ => false

/-- From `s` to `t` nothing the common part has done is touched: its registers, `ok` and its events. -/
structure KeepsCommon (s t : State) : Prop where
  pi : t.pi = s.pi
  tp : t.tp = s.tp
  pty : t.pty = s.pty
  ok : t.out.ok = s.out.ok
  events : ∀ e : Event, isCommonKind e.kind = true → (e ∈ t.out.events ↔ e ∈ s.out.events)

theorem KeepsCommon.refl (s : State) : KeepsCommon s s := ⟨rfl, rfl, rfl, rfl, fun _ _ => Iff.rfl⟩

theorem KeepsCommon.trans {s t u : State} (h : KeepsCommon s t) (h' : KeepsCommon t u) : KeepsCommon s u :=
  ⟨h'.pi.trans h.pi, h'.tp.trans h.tp, h'.pty.trans h.pty, h'.ok.trans h.ok,
    fun e he => (h'.events e he).trans (h.events e he)⟩

/-- Emitting an event of another kind adds none of the common part's. -/
theorem KeepsCommon.emitWhen {s t : State} (h : KeepsCommon s t) (c : Bool) {e : Event}
    (he : isCommonKind e.kind = false) : KeepsCommon s (t.emitWhen c e) := by
  refine h.trans ⟨rfl, rfl, rfl, rfl, fun e' he' => ?_⟩
  have hne : e' ≠ e := by rintro rfl; simp [he] at he'
  rw [emitWhen_events]
  split <;> simp [hne]

theorem isCommonKind_event (id : BufId) : isCommonKind id.event.kind = false := by
  cases id <;> rfl

/-- A write that leaves the three registers and the result keeps the common part. -/
theorem KeepsCommon.of_unchanged {s t : State} (hpi : t.pi = s.pi) (htp : t.tp = s.tp) (hpty : t.pty = s.pty)
    (hout : t.out = s.out) : KeepsCommon s t :=
  ⟨hpi, htp, hpty, by rw [hout], fun _ _ => by rw [hout]⟩

theorem keepsCommon_setBuf (id : BufId) (b : TextBuffer) (s : State) : KeepsCommon s (s.setBuf id b) :=
  .of_unchanged (setBuf_pi id b s) (setBuf_tp id b s) (setBuf_pty id b s) (setBuf_out id b s)

theorem keepsCommon_writeSegment (id : BufId) (o : Nat) (c0 c1 : Byte) (i : Level) (s : State) :
    KeepsCommon s (writeSegment id o c0 c1 i s) := keepsCommon_setBuf _ _ _

theorem keepsCommon_setEfflen (f : Bool) (n : Nat) (s : State) : KeepsCommon s (setEfflen f n s) :=
  keepsCommon_setBuf _ _ _

theorem keepsCommon_taStep (b : Bool) (s : State) : KeepsCommon s (taStep b s) := by
  unfold taStep
  refine .emitWhen (.of_unchanged ?_ ?_ ?_ ?_) _ ?_ <;> rfl

theorem keepsCommon_msStep (b : Bool) (s : State) : KeepsCommon s (msStep b s) := by
  unfold msStep
  refine .emitWhen (.of_unchanged ?_ ?_ ?_ ?_) _ ?_ <;> rfl

theorem keepsCommon_eccStep (e : Byte) (s : State) : KeepsCommon s (eccStep e s) := by
  unfold eccStep
  refine .emitWhen (.of_unchanged ?_ ?_ ?_ ?_) _ ?_ <;> rfl

theorem keepsCommon_countryStep (s : State) : KeepsCommon s (countryStep s) := by
  unfold countryStep
  refine .emitWhen (.of_unchanged ?_ ?_ ?_ ?_) _ ?_ <;> rfl

theorem keepsCommon_afAdd (n : Byte) (s : State) : KeepsCommon s (afAdd n s) := by
  rcases afAdd_cases n s with ⟨_, _, h⟩ | ⟨_, h⟩ <;> rw [h]
  · rw [emit_eq]
    refine .emitWhen (.of_unchanged ?_ ?_ ?_ ?_) _ ?_ <;> rfl
  · exact .refl s

theorem keepsCommon_rtSelect (f : Bool) (s : State) : KeepsCommon s (rtSelect f s) := by
  rcases rtSelect_cases f s with ⟨_, h⟩ | ⟨_, h⟩ <;> rw [h]
  · exact .refl s
  · refine .trans (.of_unchanged ?_ ?_ ?_ ?_) (keepsCommon_setBuf _ _ _) <;> rfl

/-- A text group whose writes keep the common part keeps it: its one event is a text event. -/
theorem keepsCommon_textGroup (id : BufId) (beB : Level) {writes : State → State} {s : State}
    (hw : KeepsCommon s (writes s)) : KeepsCommon s (textGroup id beB writes s) := by
  rcases textGroup_cases id beB writes s with ⟨_, h⟩ | ⟨_, h⟩ <;> rw [h]
  · exact .refl s
  · exact hw.emitWhen _ (isCommonKind_event id)

theorem keepsCommon_psSegment (lv : Levels) (addr : BitVec 2) (c0 c1 : Byte) (s : State) :
    KeepsCommon s (psSegment lv addr c0 c1 s) :=
  keepsCommon_textGroup _ _ (keepsCommon_writeSegment _ _ _ _ _ _)

theorem keepsCommon_group0A (lv : Levels) (f : Group0A) (s : State) : KeepsCommon s (group0A lv f s) :=
  (keepsCommon_taStep _ _).trans <| (keepsCommon_msStep _ _).trans <| (keepsCommon_afAdd _ _).trans <|
    (keepsCommon_afAdd _ _).trans (keepsCommon_psSegment _ _ _ _ _)

theorem keepsCommon_group0B (lv : Levels) (f : Group0B) (s : State) : KeepsCommon s (group0B lv f s) :=
  (keepsCommon_taStep _ _).trans <| (keepsCommon_msStep _ _).trans (keepsCommon_psSegment _ _ _ _ _)

theorem keepsCommon_group1A (f : Group1A) (s : State) : KeepsCommon s (group1A f s) := by
  unfold group1A
  split
  · exact (keepsCommon_eccStep _ _).trans (keepsCommon_countryStep _)
  · exact .refl s

theorem keepsCommon_group2A (lv : Levels) (f : Group2A) (s : State) : KeepsCommon s (group2A lv f s) :=
  keepsCommon_textGroup _ _ <| (keepsCommon_rtSelect _ _).trans <| (keepsCommon_setEfflen _ _ _).trans <|
    (keepsCommon_writeSegment _ _ _ _ _ _).trans (keepsCommon_writeSegment _ _ _ _ _ _)

theorem keepsCommon_group2B (lv : Levels) (f : Group2B) (s : State) : KeepsCommon s (group2B lv f s) :=
  keepsCommon_textGroup _ _ <| (keepsCommon_rtSelect _ _).trans <| (keepsCommon_setEfflen _ _ _).trans
    (keepsCommon_writeSegment _ _ _ _ _ _)

theorem keepsCommon_group4A (f : Group4A) (s : State) : KeepsCommon s (group4A f s) := by
  rcases group4A_cases f s with ⟨_, h⟩ | ⟨_, h⟩ <;> rw [h]
  · rw [emit_eq]
    refine .emitWhen (.of_unchanged ?_ ?_ ?_ ?_) _ ?_ <;> rfl
  · exact .refl s

theorem keepsCommon_group10A (lv : Levels) (f : Group10A) (s : State) : KeepsCommon s (group10A lv f s) :=
  keepsCommon_textGroup _ _ <| (keepsCommon_writeSegment _ _ _ _ _ _).trans
    (keepsCommon_writeSegment _ _ _ _ _ _)

/-- Whatever the group, its field decoder keeps what the common part has done. -/
theorem keepsCommon_dispatchGroup (g : Group) (lv : Levels) (s : State) : KeepsCommon s (dispatchGroup g lv s) := by
  unfold dispatchGroup
  split
  · exact keepsCommon_group0A _ _ _
  · exact keepsCommon_group0B _ _ _
  · exact keepsCommon_group1A _ _
  · exact keepsCommon_group2A _ _ _
  · exact keepsCommon_group2B _ _ _
  · exact keepsCommon_group4A _ _
  · exact keepsCommon_group10A _ _ _
  · exact .refl s

/-! ### The common part of a decode -/

/-- The events of the common part of a command: one for each of its registers that is listened to and differed. -/
theorem mem_commonPart_begin_events (h : Head) (s : State) (e : Event) :
    e ∈ (commonPart h s.begin).out.events ↔
      (s.pi ≠ some h.pi ∧ s.listen.pi = true ∧ e = .pi h.pi) ∨
      (s.tp ≠ some h.tp ∧ s.listen.tp = true ∧ e = .tp h.tp) ∨
      (s.pty ≠ some h.pty ∧ s.listen.pty = true ∧ e = .pty h.pty) := by
  simp only [commonPart_events, begin_out, Result.okay, begin_pi, begin_tp, begin_pty, begin_listen, List.mem_append,
    List.not_mem_nil, false_or, List.mem_ite_nil_right, Bool.and_eq_true, bne_iff_ne, List.mem_singleton, and_assoc,
    or_assoc]

/-- PTY of a group is B[9:5] (R91). -/
theorem headOf_pty (g : Group) : (headOf g).pty = (blockB g).extractLsb' 5 5 := by
  apply BitVec.eq_of_getLsbD_eq
  intro i hi
  simp only [headOf, blockB, BitVec.getLsbD_extractLsb']
  have hB : 5 + i < 16 := by omega
  simp [hi, hB, ← Nat.add_assoc]

/-- Settles O20: the field decoders emit no PTY event and leave the register, so both are the common part's. -/
theorem ptyEventExactlyOnChange : Obligations.PtyEventExactlyOnChange := by
  intro g lv s hlive
  have hkeep := keepsCommon_dispatchGroup g lv (commonPart (headOf g) s.begin)
  rw [← headOf_pty]
  refine ⟨_, whenLive_live (decodeRawGroup g lv) hlive, hkeep.pty, fun v => ?_⟩
  rw [decodeRawGroup, hkeep.events (.pty v) rfl, mem_commonPart_begin_events]
  simp [and_left_comm]

/-! ### Strings that are no group -/

/-- The characters without a value are those that are no hexadecimal digit. -/
theorem hexval_eq_none_iff (ch : Nat) : hexval ch = none ↔ ¬ isHexDigit ch := by
  unfold hexval isHexDigit
  split_ifs <;> simp <;> omega

/-- A string has no number exactly when one of its characters is no digit. -/
theorem hexNumber_eq_none_iff (chars : List Nat) (acc : Nat) :
    hexNumber chars acc = none ↔ ∃ ch ∈ chars, ¬ isHexDigit ch := by
  induction chars generalizing acc with
  | nil => simp [hexNumber]
  | cons ch rest ih =>
    rw [hexNumber, List.exists_mem_cons_iff, ← hexval_eq_none_iff ch]
    cases hexval ch with
    | none => simp
    | some v => simp [ih]

/-- A string is no group exactly when it is not 16 hexadecimal digits (R141). -/
theorem parseHex_eq_none_iff (chars : List Nat) :
    parseHex chars = none ↔ chars.length ≠ 16 ∨ ∃ ch ∈ chars, ¬ isHexDigit ch := by
  rw [← hexNumber_eq_none_iff chars 0, parseHex]
  split_ifs with hlen <;> simp [hlen]

/-- While LIFE is LIVE, DECODE_HEX rejects a string that is no group. -/
theorem exec_decodeHex_of_parseHex_none {chars : List Nat} {s : State} (hlive : s.life = .live)
    (hnone : parseHex chars = none) : exec (.decodeHex chars) s = .next (s.reject .malformedInput) := by
  rw [exec, execDecodeHex, whenLive_live _ hlive, hnone]

/-- Settles O23: such a string does not parse, and a rejection changes nothing but the result. -/
theorem malformedStringChangesNothing : Obligations.MalformedStringChangesNothing := by
  intro chars s hlive hbad
  exact exec_decodeHex_of_parseHex_none hlive ((parseHex_eq_none_iff chars).2 hbad)

/-! ### The 25 codes without a field decoder -/

/-- Each of the 25 instructions is the common part alone; levels, `spec`, C and D have no part in it. -/
theorem exec_of_mem_commonOnly {lv : Levels} {h : Head} {r : Rest} {i : Instr} (hi : i ∈ commonOnly lv h r)
    (s : State) : exec i s = decodeWith h id s := by
  unfold commonOnly at hi
  fin_cases hi <;> rfl

/-- The common part of a command sets the three registers and leaves `ok` true and no value. -/
theorem decoded_commonPart_begin (h : Head) (s : State) : Decoded h (commonPart h s.begin) :=
  ⟨commonPart_pi h _, commonPart_tp h _, commonPart_pty h _, commonPart_ok h _, commonPart_value h _⟩

/-- The common part of a command writes PI, TP, PTY and the result only. -/
theorem commonPart_begin_eq_commonFrom (h : Head) (s : State) :
    commonPart h s.begin = commonFrom (commonPart h s.begin) s := rfl

/-- Settles O24: all 25 instructions answer the state the common part leaves. -/
theorem unrecognisedGroupsDoTheCommonPartOnly : Obligations.UnrecognisedGroupsDoTheCommonPartOnly := by
  intro lv h r s i hlive hi
  have hexec {lv' : Levels} {r' : Rest} {j : Instr} (hj : j ∈ commonOnly lv' h r') :
      exec j s = .next (commonPart h s.begin) :=
    (exec_of_mem_commonOnly hj s).trans (decodeWith_live h id hlive)
  refine ⟨_, hexec hi, decoded_commonPart_begin h s, commonPart_begin_eq_commonFrom h s, fun e he => ?_,
    fun _ _ _ hj => hexec hj⟩
  rcases (mem_commonPart_begin_events h s e).1 he with ⟨_, _, rfl⟩ | ⟨_, _, rfl⟩ | ⟨_, _, rfl⟩
  · exact .inl rfl
  · exact .inr (.inl rfl)
  · exact .inr (.inr rfl)

end Sys2Proof.Claims
end

