-- ==== Sys2Proof/Proofs/FieldDecoders.lean ====
section
/-!
PROOFS. The field decoders of groups 0 and 1A (41_field_decoders): which of TA, MS, ECC and COUNTRY each of them writes
and reports (R191, R192, R210), the bits of block B and C the fields are, the TA, MS and ECC steps of a decode.
-/

namespace Sys2Proof.Claims

open Sys2Proof.Machine

/-! ### What the field decoders write and report -/

/-- From `s` to `t`, of TA, MS, ECC and COUNTRY only those of the kinds `ks` are written, and only events of these kinds
are added. -/
structure KeepsBut (ks : List EventKind) (s t : State) : Prop where
  ta : .ta ∉ ks → t.ta = s.ta
  ms : .ms ∉ ks → t.ms = s.ms
  ecc : .ecc ∉ ks → t.ecc = s.ecc
  country : .country ∉ ks → t.country = s.country
  events : ∀ e : Event, e.kind ∉ ks → (e ∈ t.out.events ↔ e ∈ s.out.events)

/-- A write that leaves the four registers and the result keeps them, whatever the kinds. -/
theorem KeepsBut.of_unchanged {ks : List EventKind} {s t : State} (hta : t.ta = s.ta) (hms : t.ms = s.ms)
    (hecc : t.ecc = s.ecc) (hcountry : t.country = s.country) (hout : t.out = s.out) : KeepsBut ks s t :=
  ⟨fun _ => hta, fun _ => hms, fun _ => hecc, fun _ => hcountry, fun _ _ => by rw [hout]⟩

theorem KeepsBut.refl (ks : List EventKind) (s : State) : KeepsBut ks s s := .of_unchanged rfl rfl rfl rfl rfl

theorem KeepsBut.trans {ks : List EventKind} {s t u : State} (h : KeepsBut ks s t) (h' : KeepsBut ks t u) :
    KeepsBut ks s u :=
  ⟨fun hk => (h'.ta hk).trans (h.ta hk), fun hk => (h'.ms hk).trans (h.ms hk),
    fun hk => (h'.ecc hk).trans (h.ecc hk), fun hk => (h'.country hk).trans (h.country hk),
    fun e hk => (h'.events e hk).trans (h.events e hk)⟩

/-- Emitting an event of one of the kinds adds none of another. -/
theorem KeepsBut.emitWhen {ks : List EventKind} {s t : State} (h : KeepsBut ks s t) (c : Bool) {e : Event}
    (he : e.kind ∈ ks) : KeepsBut ks s (t.emitWhen c e) := by
  refine h.trans ⟨fun _ => rfl, fun _ => rfl, fun _ => rfl, fun _ => rfl, fun e' he' => ?_⟩
  have hne : e' ≠ e := by rintro rfl; exact he' he
  rw [emitWhen_events]
  split <;> simp [hne]

theorem keepsBut_setBuf (ks : List EventKind) (id : BufId) (b : TextBuffer) (s : State) :
    KeepsBut ks s (s.setBuf id b) :=
  .of_unchanged (setBuf_ta id b s) (setBuf_ms id b s) (setBuf_ecc id b s) (setBuf_country id b s) (setBuf_out id b s)

theorem keepsBut_writeSegment (ks : List EventKind) (id : BufId) (o : Nat) (c0 c1 : Byte) (i : Level) (s : State) :
    KeepsBut ks s (writeSegment id o c0 c1 i s) := keepsBut_setBuf _ _ _ _

theorem keepsBut_setEfflen (ks : List EventKind) (f : Bool) (n : Nat) (s : State) :
    KeepsBut ks s (setEfflen f n s) := keepsBut_setBuf _ _ _ _

theorem keepsBut_rtSelect (ks : List EventKind) (f : Bool) (s : State) : KeepsBut ks s (rtSelect f s) := by
  rcases rtSelect_cases f s with ⟨_, h⟩ | ⟨_, h⟩ <;> rw [h]
  · exact .refl ks s
  · refine .trans (.of_unchanged ?_ ?_ ?_ ?_ ?_) (keepsBut_setBuf _ _ _ _) <;> rfl

/-- A text group adds to what its writes do at most the event of its buffer. -/
theorem keepsBut_textGroup {ks : List EventKind} {id : BufId} (beB : Level) {writes : State → State} {s : State}
    (hw : KeepsBut ks s (writes s)) (hid : id.event.kind ∈ ks) : KeepsBut ks s (textGroup id beB writes s) := by
  rcases textGroup_cases id beB writes s with ⟨_, h⟩ | ⟨_, h⟩ <;> rw [h]
  · exact .refl ks s
  · exact hw.emitWhen _ hid

theorem keepsBut_psSegment (lv : Levels) (addr : BitVec 2) (c0 c1 : Byte) (s : State) :
    KeepsBut [.af, .ps] s (psSegment lv addr c0 c1 s) :=
  keepsBut_textGroup _ (keepsBut_writeSegment _ _ _ _ _ _ _) (by decide)

theorem keepsBut_afAdd (n : Byte) (s : State) : KeepsBut [.af, .ps] s (afAdd n s) := by
  rcases afAdd_cases n s with ⟨_, _, h⟩ | ⟨_, h⟩ <;> rw [h]
  · rw [emit_eq]
    refine .emitWhen (.of_unchanged ?_ ?_ ?_ ?_ ?_) _ (by simp [Event.kind]) <;> rfl
  · exact .refl _ s

theorem keepsBut_eccStep {ks : List EventKind} (hk : .ecc ∈ ks) (e : Byte) (s : State) :
    KeepsBut ks s (eccStep e s) := by
  have hwrite : KeepsBut ks s { s with ecc := some e } :=
    ⟨fun _ => rfl, fun _ => rfl, fun hn => absurd hk hn, fun _ => rfl, fun _ _ => .rfl⟩
  exact hwrite.emitWhen (e := .ecc e) _ hk

theorem keepsBut_countryStep {ks : List EventKind} (hk : .country ∈ ks) (s : State) :
    KeepsBut ks s (countryStep s) := by
  have hwrite : KeepsBut ks s { s with country := lookupCountry s } :=
    ⟨fun _ => rfl, fun _ => rfl, fun _ => rfl, fun hn => absurd hk hn, fun _ _ => .rfl⟩
  exact hwrite.emitWhen (e := .country _) _ hk

theorem keepsBut_group4A {ks : List EventKind} (hk : .ct ∈ ks) (f : Group4A) (s : State) :
    KeepsBut ks s (group4A f s) := by
  rcases group4A_cases f s with ⟨_, h⟩ | ⟨_, h⟩ <;> rw [h]
  · rw [emit_eq]
    refine .emitWhen (.of_unchanged ?_ ?_ ?_ ?_ ?_) _ hk <;> rfl
  · exact .refl ks s

/-! ### The fields as bits of their blocks -/

theorem getLsbD_blockB (g : Group) {i : Nat} (hi : i < 16) : (blockB g).getLsbD i = g.getLsbD (32 + i) := by
  simp [blockB, hi]

/-- The opcode is B[15:11] (R92). -/
theorem opcode_eq_blockB (g : Group) : opcode g = (blockB g).extractLsb' 11 5 := by
  apply BitVec.eq_of_getLsbD_eq
  intro i hi
  rw [opcode, BitVec.getLsbD_extractLsb', BitVec.getLsbD_extractLsb', getLsbD_blockB g (by omega), ← Nat.add_assoc]

/-- The group type is the opcode without its lowest bit, the version (R92). -/
theorem groupType_toNat (g : Group) : ((blockB g).extractLsb' 12 4).toNat = (opcode g).toNat / 2 := by
  rw [opcode_eq_blockB]
  simp only [BitVec.extractLsb'_toNat, Nat.shiftRight_eq_div_pow]
  omega

/-- Group type 0 is opcodes 0 and 1: groups 0A and 0B. -/
theorem groupType_eq_zero_iff (g : Group) :
    (blockB g).extractLsb' 12 4 = 0#4 ↔ (opcode g).toNat = 0 ∨ (opcode g).toNat = 1 := by
  rw [← BitVec.toNat_inj, groupType_toNat, BitVec.toNat_ofNat]
  omega

/-- The variant of a group 1A is C[14:12] (R95). -/
theorem fields1A_variant (g : Group) : (fields1A g).variant = (blockC g).extractLsb' 12 3 := by
  apply BitVec.eq_of_getLsbD_eq
  intro i hi
  have hC : 12 + i < 16 := by omega
  simp [fields1A, blockC, hi, hC, ← Nat.add_assoc]

/-- The ECC of a group 1A is `lo(C)` (R95). -/
theorem fields1A_ecc (g : Group) : (fields1A g).ecc = (blockC g).extractLsb' 0 8 := by
  apply BitVec.eq_of_getLsbD_eq
  intro i hi
  have hC : i < 16 := by omega
  simp [fields1A, blockC, hi, hC]

/-! ### The TA, MS and ECC steps of a decode -/

/-- The events after the TA step (R191). -/
theorem mem_taStep_events (b : Bool) (s : State) (e : Event) :
    e ∈ (taStep b s).out.events ↔
      e ∈ s.out.events ∨ (s.listen.ta = true ∧ s.ta ≠ some b ∧ e = .ta b) := by
  simp [taStep_events, and_assoc, and_left_comm]

/-- The events after the MS step (R192). -/
theorem mem_msStep_events (b : Bool) (s : State) (e : Event) :
    e ∈ (msStep b s).out.events ↔
      e ∈ s.out.events ∨ (s.listen.ms = true ∧ s.ms ≠ some b ∧ e = .ms b) := by
  simp [msStep_events, and_assoc, and_left_comm]

/-- The events after the ECC step (R210). -/
theorem mem_eccStep_events (v : Byte) (s : State) (e : Event) :
    e ∈ (eccStep v s).out.events ↔
      e ∈ s.out.events ∨ (s.listen.ecc = true ∧ s.ecc ≠ some v ∧ e = .ecc v) := by
  simp [eccStep_events, and_assoc, and_left_comm]

/-- After the TA and MS steps, which take B[4] and B[3], a group of type 0 goes on with AF and PS only. -/
theorem keepsBut_dispatchGroup_typeZero {g : Group} (hzero : (blockB g).extractLsb' 12 4 = 0#4) (lv : Levels)
    (s : State) :
    KeepsBut [.af, .ps] (msStep ((blockB g).getLsbD 3) (taStep ((blockB g).getLsbD 4) s)) (dispatchGroup g lv s) := by
  rw [getLsbD_blockB g (by decide), getLsbD_blockB g (by decide)]
  rcases (groupType_eq_zero_iff g).1 hzero with hop | hop <;> simp only [dispatchGroup, hop]
  · exact (keepsBut_afAdd _ _).trans <| (keepsBut_afAdd _ _).trans (keepsBut_psSegment _ _ _ _ _)
  · exact keepsBut_psSegment _ _ _ _ _

/-- A group of another type writes neither TA nor MS and reports neither. -/
theorem keepsBut_dispatchGroup_otherType {g : Group} (hother : (blockB g).extractLsb' 12 4 ≠ 0#4) (lv : Levels)
    (s : State) : KeepsBut [.ecc, .country, .rt, .ct, .ptyn] s (dispatchGroup g lv s) := by
  rw [Ne, groupType_eq_zero_iff, not_or] at hother
  obtain ⟨hne0A, hne0B⟩ := hother
  unfold dispatchGroup
  split
  next hop => exact absurd hop hne0A
  next hop => exact absurd hop hne0B
  · unfold group1A
    split
    · exact (keepsBut_eccStep (by decide) _ _).trans (keepsBut_countryStep (by decide) _)
    · exact .refl _ s
  · refine keepsBut_textGroup _ ?_ (by simp [BufId.event, Event.kind])
    exact (keepsBut_rtSelect _ _ _).trans <| (keepsBut_setEfflen _ _ _ _).trans <|
      (keepsBut_writeSegment _ _ _ _ _ _ _).trans (keepsBut_writeSegment _ _ _ _ _ _ _)
  · refine keepsBut_textGroup _ ?_ (by simp [BufId.event, Event.kind])
    exact (keepsBut_rtSelect _ _ _).trans <| (keepsBut_setEfflen _ _ _ _).trans (keepsBut_writeSegment _ _ _ _ _ _ _)
  · exact keepsBut_group4A (by decide) _ _
  · refine keepsBut_textGroup _ ?_ (by decide)
    exact (keepsBut_writeSegment _ _ _ _ _ _ _).trans (keepsBut_writeSegment _ _ _ _ _ _ _)
  · exact .refl _ s

/-- After the ECC step, which takes `lo(C)`, a group 1A with variant 0 goes on with COUNTRY only. -/
theorem keepsBut_dispatchGroup_ecc {g : Group} (hop : (blockB g).extractLsb' 11 5 = 2#5)
    (hvariant : (blockC g).extractLsb' 12 3 = 0#3) (lv : Levels) (s : State) :
    KeepsBut [.country] (eccStep ((blockC g).extractLsb' 0 8) s) (dispatchGroup g lv s) := by
  have hcode : (opcode g).toNat = 2 := by rw [opcode_eq_blockB, hop]; rfl
  have hfield : (fields1A g).variant = 0#3 := (fields1A_variant g).trans hvariant
  simp only [dispatchGroup, hcode, group1A, hfield, if_true, fields1A_ecc]
  exact keepsBut_countryStep (by decide) _

/-- Settles O26: what follows the TA and MS steps of a group of type 0 leaves them alone, and a group of another type
has no such step. -/
theorem onlyGroupZeroWritesTaAndMs : Obligations.OnlyGroupZeroWritesTaAndMs := by
  intro g lv s hlive
  refine ⟨_, whenLive_live (decodeRawGroup g lv) hlive, fun hzero => ?_, fun hother => ?_⟩
  · have hkeep := keepsBut_dispatchGroup_typeZero hzero lv (commonPart (headOf g) s.begin)
    refine ⟨hkeep.ta (by decide), hkeep.ms (by decide), fun v => ?_, fun v => ?_⟩
    · rw [decodeRawGroup, hkeep.events (.ta v) (by simp [Event.kind]), mem_msStep_events, mem_taStep_events,
        mem_commonPart_begin_events]
      simp
    · rw [decodeRawGroup, hkeep.events (.ms v) (by simp [Event.kind]), mem_msStep_events, mem_taStep_events,
        mem_commonPart_begin_events]
      simp
  · have hkeep := keepsBut_dispatchGroup_otherType hother lv (commonPart (headOf g) s.begin)
    refine ⟨hkeep.ta (by decide), hkeep.ms (by decide), fun v => ⟨?_, ?_⟩⟩
    · rw [decodeRawGroup, hkeep.events (.ta v) (by simp [Event.kind]), mem_commonPart_begin_events]
      simp
    · rw [decodeRawGroup, hkeep.events (.ms v) (by simp [Event.kind]), mem_commonPart_begin_events]
      simp

/-- Settles O31: the COUNTRY step that follows leaves the ECC and its events to the ECC step. -/
theorem eccStepWritesAndReports : Obligations.EccStepWritesAndReports := by
  intro g lv s hlive hop hvariant
  have hkeep := keepsBut_dispatchGroup_ecc hop hvariant lv (commonPart (headOf g) s.begin)
  refine ⟨_, whenLive_live (decodeRawGroup g lv) hlive, hkeep.ecc (by decide), fun v => ?_⟩
  rw [decodeRawGroup, hkeep.events (.ecc v) (by simp [Event.kind]), mem_eccStep_events, mem_commonPart_begin_events]
  simp

end Sys2Proof.Claims
end

