-- ==== Sys2Proof/Proofs/TextAssembler.lean ====
section
/-!
PROOFS. The text assembler (42_text_assembler): the write rule position by position (R235, R236), and what can change a
character at count 0 (R239).
-/

namespace Sys2Proof.Claims

open Sys2Proof.Machine

/-! ### The write rule -/

/-- The model's condition is the one of R235. -/
theorem overwrites_iff (t s : Level) (x c : Byte) (i : Level) :
    overwrites t s x c i = true ↔ i < s ∨ (x ≠ c ∧ i ≤ t ∧ s ≠ i) := by
  simp [overwrites, and_assoc]

/-- Offering a character is the write rule at the position. -/
theorem positionWritten_offer {len : Nat} {b : TextBuffer} (hwf : b.wf len = true) (t : Level) (p : Nat) (c : Byte)
    (i : Level) : PositionWritten t p c i b (b.offer t p c i) := by
  unfold PositionWritten
  rw [← overwrites_iff]
  rcases offer_cases t p c i b with ⟨hyes, h⟩ | ⟨hno, h⟩ <;> rw [h]
  · exact ⟨fun _ => ⟨memWrite_chrAt_same hwf, memWrite_errAt_same hwf⟩, fun hn => absurd hyes hn⟩
  · exact ⟨fun hy => absurd (hno.symm.trans hy) Bool.false_ne_true, fun _ => ⟨rfl, rfl⟩⟩

theorem sameAt_offer_of_ne {p q : Nat} (hne : q ≠ p) (t : Level) (c : Byte) (i : Level) (b : TextBuffer) :
    SameAt q b (b.offer t p c i) :=
  ⟨offer_chrAt_other t c i b hne, offer_errAt_other t c i b hne⟩

/-- The counter and the publication of a segment leave the working copy as the two offers do. -/
theorem sameAt_offers_writeSegment (prog : Bool) (t : Level) (o : Nat) (c0 c1 : Byte) (i : Level) (b : TextBuffer)
    (p : Nat) : SameAt p ((b.offer t o c0 i).offer t (o + 1) c1 i) (b.writeSegment prog t o c0 c1 i) := by
  obtain ⟨_, _, ⟨_, h⟩ | ⟨_, h⟩⟩ := writeSegment_cases prog t o c0 c1 i b
  · rw [h]
    exact ⟨rfl, rfl⟩
  · rw [h]
    exact ⟨rfl, rfl⟩

theorem SameAt.refl (p : Nat) (b : TextBuffer) : SameAt p b b := ⟨rfl, rfl⟩

theorem SameAt.trans {p : Nat} {a b c : TextBuffer} (h : SameAt p a b) (h' : SameAt p b c) : SameAt p a c :=
  ⟨h'.1.trans h.1, h'.2.trans h.2⟩

/-- The write rule speaks of the position only, before and after. -/
theorem positionWritten_congr {t : Level} {p : Nat} {c : Byte} {i : Level} {a a' b b' : TextBuffer}
    (ha : SameAt p a a') (hb : SameAt p b b') (h : PositionWritten t p c i a' b) : PositionWritten t p c i a b' := by
  obtain ⟨hac, hae⟩ := ha
  obtain ⟨hbc, hbe⟩ := hb
  unfold PositionWritten at h ⊢
  rwa [hbc, hbe, ← hac, ← hae]

section Segment

variable {len o : Nat} {b : TextBuffer} (prog : Bool) (t : Level) (c0 c1 : Byte) (i : Level)

/-- A segment obeys the write rule at its first position: the second offer is elsewhere. -/
theorem positionWritten_writeSegment_first (hwf : b.wf len = true) :
    PositionWritten t o c0 i b (b.writeSegment prog t o c0 c1 i) := by
  have hafter : SameAt o (b.offer t o c0 i) (b.writeSegment prog t o c0 c1 i) :=
    (sameAt_offer_of_ne (by omega) t c1 i _).trans (sameAt_offers_writeSegment prog t o c0 c1 i b o)
  exact positionWritten_congr (.refl o b) hafter (positionWritten_offer hwf t o c0 i)

/-- A segment obeys the write rule at its second position: the first offer is elsewhere. -/
theorem positionWritten_writeSegment_second (hwf : b.wf len = true) (ho : o < len) :
    PositionWritten t (o + 1) c1 i b (b.writeSegment prog t o c0 c1 i) :=
  positionWritten_congr (sameAt_offer_of_ne (by omega) t c0 i b) (sameAt_offers_writeSegment prog t o c0 c1 i b (o + 1))
    (positionWritten_offer (offer_wf hwf ho) t (o + 1) c1 i)

/-- A segment leaves every other position alone. -/
theorem sameAt_writeSegment_of_ne {p : Nat} (h0 : p ≠ o) (h1 : p ≠ o + 1) :
    SameAt p b (b.writeSegment prog t o c0 c1 i) :=
  (sameAt_offer_of_ne h0 t c0 i b).trans <| (sameAt_offer_of_ne h1 t c1 i _).trans
    (sameAt_offers_writeSegment prog t o c0 c1 i b p)

end Segment

/-- A tie keeps the stored character (R236). -/
theorem PositionWritten.sameAt_of_tie {t : Level} {p : Nat} {c : Byte} {i : Level} {b b' : TextBuffer}
    (h : PositionWritten t p c i b b') (htie : b.errAt p = i) : SameAt p b b' := by
  refine h.2 ?_
  rw [htie]
  simp

/-- The buffers of a well-formed state are well formed. -/
theorem wf_buf {s : State} (hwf : s.wf = true) (id : BufId) : (s.buf id).wf id.len = true := by
  simp only [State.wf, State.bufWf, Bool.and_eq_true] at hwf
  obtain ⟨⟨⟨⟨⟨hps, _⟩, hrt0, _⟩, hrt1, _⟩, hptyn, _⟩, _⟩ := hwf
  match id with
  | .ps => exact hps
  | .rt false => exact hrt0
  | .rt true => exact hrt1
  | .ptyn => exact hptyn

/-- Settles O39: each position of the segment obeys the write rule, whose condition a tie does not meet. -/
theorem writeRuleWithItsTie : Obligations.WriteRuleWithItsTie := by
  intro id o c0 c1 i s hwf ho
  have hbuf := wf_buf hwf id
  rw [writeSegment_buf_same]
  have hfirst := positionWritten_writeSegment_first (o := o) (s.prog.get id.kind) (s.thr.get id.kind .data) c0 c1 i hbuf
  have hsecond := positionWritten_writeSegment_second (o := o) (s.prog.get id.kind) (s.thr.get id.kind .data) c0 c1 i
    hbuf (by omega)
  exact ⟨hfirst, hsecond, hfirst.sameAt_of_tie, hsecond.sameAt_of_tie,
    fun _ h0 h1 => sameAt_writeSegment_of_ne _ _ _ _ _ h0 h1,
    fun id' hne => writeSegment_buf_other id id' hne o c0 c1 i s⟩

/-! ### A position at count 0: one buffer -/

/-- From `b` to `b'` position `p`, if its count is 0, is kept or regresses: a different character is stored, at a level
above 0 and within the threshold (R239). -/
def StableKept (t : Level) (p : Nat) (b b' : TextBuffer) : Prop :=
  b.errAt p = 0#2 → SameAt p b b' ∨ (0#2 < b'.errAt p ∧ b'.errAt p ≤ t ∧ b'.chrAt p ≠ b.chrAt p)

theorem SameAt.stableKept {p : Nat} {b b' : TextBuffer} (h : SameAt p b b') (t : Level) : StableKept t p b b' :=
  fun _ => .inl h

/-- The count 0 is not above any level, so the write rule overwrites with a different character or not at all. -/
theorem PositionWritten.stableKept {t : Level} {p : Nat} {c : Byte} {i : Level} {b b' : TextBuffer}
    (h : PositionWritten t p c i b b') : StableKept t p b b' := by
  intro hzero
  obtain ⟨hwrite, hkeep⟩ := h
  by_cases hcond : i < b.errAt p ∨ (b.chrAt p ≠ c ∧ i ≤ t ∧ b.errAt p ≠ i)
  · obtain ⟨hchr, herr⟩ := hwrite hcond
    rw [hzero] at hcond
    obtain hlt | ⟨hne, hle, hi⟩ := hcond
    · exact absurd hlt BitVec.not_lt_zero
    · rw [hchr, herr]
      exact .inr ⟨(BitVec.pos_iff_ne_zero _).2 hi.symm, hle, hne.symm⟩
  · exact .inl (hkeep hcond)

theorem StableKept.trans_sameAt {t : Level} {p : Nat} {a b c : TextBuffer} (h : StableKept t p a b)
    (h' : SameAt p b c) : StableKept t p a c := by
  obtain ⟨hchr, herr⟩ := h'
  unfold StableKept SameAt at h ⊢
  rwa [hchr, herr]

theorem SameAt.trans_stableKept {t : Level} {p : Nat} {a b c : TextBuffer} (h : SameAt p a b)
    (h' : StableKept t p b c) : StableKept t p a c := by
  obtain ⟨hchr, herr⟩ := h
  unfold StableKept SameAt at h' ⊢
  rwa [← hchr, ← herr]

theorem stableKept_writeSegment {len o : Nat} {b : TextBuffer} (hwf : b.wf len = true) (ho : o < len) (prog : Bool)
    (t : Level) (c0 c1 : Byte) (i : Level) (p : Nat) : StableKept t p b (b.writeSegment prog t o c0 c1 i) := by
  by_cases h0 : p = o
  · rw [h0]
    exact (positionWritten_writeSegment_first prog t c0 c1 i hwf).stableKept
  · by_cases h1 : p = o + 1
    · rw [h1]
      exact (positionWritten_writeSegment_second prog t c0 c1 i hwf ho).stableKept
    · exact (sameAt_writeSegment_of_ne prog t c0 c1 i h0 h1).stableKept t

/-- Of two neighbouring segments at most one is offered to a position. -/
theorem stableKept_two_segments {len o : Nat} {b : TextBuffer} (hwf : b.wf len = true) (ho : o + 3 < len) (prog : Bool)
    (t : Level) (c0 c1 c2 c3 : Byte) (i j : Level) (p : Nat) :
    StableKept t p b ((b.writeSegment prog t o c0 c1 i).writeSegment prog t (o + 2) c2 c3 j) := by
  by_cases hp : p < o + 2
  · exact (stableKept_writeSegment hwf (by omega) prog t c0 c1 i p).trans_sameAt
      (sameAt_writeSegment_of_ne prog t c2 c3 j (by omega) (by omega))
  · exact (sameAt_writeSegment_of_ne prog t c0 c1 i (by omega) (by omega)).trans_stableKept
      (stableKept_writeSegment (textBuffer_writeSegment_wf hwf (by omega)) (by omega) prog t c2 c3 j p)

/-! ### A position at count 0: the four buffers -/

/-- From `s` to `t` the toggle step has made this RT buffer active, and so has reset it (R200). -/
def MadeActive (id : BufId) (s t : State) : Prop := ∃ f, id = .rt f ∧ s.rtActive ≠ some f ∧ t.rtActive = some f

/-- From `s` to `t` every buffer has been made active, or keeps its characters at count 0 but for regressing writes. -/
def KeepsStable (s t : State) : Prop :=
  ∀ id, MadeActive id s t ∨ ∀ p, StableKept (s.thr.get id.kind .data) p (s.buf id) (t.buf id)

/-- From `s` to `t` the buffers, the thresholds and the active flag stay. -/
structure KeepsText (s t : State) : Prop where
  buf : ∀ id, t.buf id = s.buf id
  thr : t.thr = s.thr
  rtActive : t.rtActive = s.rtActive

/-- The buffers are well formed, the part of `State.wf` the write rule needs. -/
def BuffersWf (s : State) : Prop := ∀ id, (s.buf id).wf id.len = true

theorem KeepsStable.of_buf {s t : State} (h : ∀ id, t.buf id = s.buf id) : KeepsStable s t :=
  fun id => .inr fun p => by rw [h id]; exact (SameAt.refl p _).stableKept _

/-- Only one buffer is written. -/
theorem KeepsStable.of_one_buf {id : BufId} {s t : State} (hother : ∀ id', id' ≠ id → t.buf id' = s.buf id')
    (hid : ∀ p, StableKept (s.thr.get id.kind .data) p (s.buf id) (t.buf id)) : KeepsStable s t := by
  intro id'
  by_cases h : id' = id
  · rw [h]
    exact .inr hid
  · rw [hother id' h]
    exact .inr fun p => (SameAt.refl p _).stableKept _

/-- The buffers of a state are its four buffer fields. -/
theorem buf_eq_of_fields {s t : State} (hps : t.ps = s.ps) (hrt0 : t.rt0 = s.rt0) (hrt1 : t.rt1 = s.rt1)
    (hptyn : t.ptyn = s.ptyn) (id : BufId) : t.buf id = s.buf id :=
  match id with
  | .ps => hps
  | .rt false => hrt0
  | .rt true => hrt1
  | .ptyn => hptyn

theorem KeepsText.refl (s : State) : KeepsText s s := ⟨fun _ => rfl, rfl, rfl⟩

theorem KeepsText.keepsStable {s t : State} (h : KeepsText s t) : KeepsStable s t := .of_buf h.buf

theorem KeepsText.trans {s t u : State} (h : KeepsText s t) (h' : KeepsText t u) : KeepsText s u :=
  ⟨fun id => (h'.buf id).trans (h.buf id), h'.thr.trans h.thr, h'.rtActive.trans h.rtActive⟩

theorem KeepsText.buffersWf {s t : State} (h : KeepsText s t) (hwf : BuffersWf s) : BuffersWf t := by
  intro id
  rw [h.buf]
  exact hwf id

theorem KeepsText.trans_keepsStable {s t u : State} (h : KeepsText s t) (h' : KeepsStable t u) : KeepsStable s u := by
  intro id
  have hid := h' id
  unfold MadeActive at hid ⊢
  rwa [h.buf, h.thr, h.rtActive] at hid

theorem KeepsStable.trans_keepsText {s t u : State} (h : KeepsStable s t) (h' : KeepsText t u) : KeepsStable s u := by
  intro id
  have hid := h id
  unfold MadeActive at hid ⊢
  rwa [h'.buf, h'.rtActive]

/-! ### The steps of a group that write no text -/

theorem keepsText_emitWhen (c : Bool) (e : Event) (s : State) : KeepsText s (s.emitWhen c e) :=
  ⟨emitWhen_buf c e s, rfl, rfl⟩

theorem keepsText_commonPart_begin (h : Head) (s : State) : KeepsText s (commonPart h s.begin) :=
  ⟨fun id => (commonPart_buf h _ id).trans (begin_buf s id), rfl, rfl⟩

theorem keepsText_taStep_msStep (a m : Bool) (s : State) : KeepsText s (msStep m (taStep a s)) :=
  ⟨fun id => (msStep_buf m _ id).trans (taStep_buf a s id), rfl, rfl⟩

theorem keepsText_afAdd (n : Byte) (s : State) : KeepsText s (afAdd n s) := by
  rcases afAdd_cases n s with ⟨_, _, h⟩ | ⟨_, h⟩ <;> rw [h]
  · exact ⟨buf_eq_of_fields rfl rfl rfl rfl, rfl, rfl⟩
  · exact .refl s

theorem keepsText_group1A (f : Group1A) (s : State) : KeepsText s (group1A f s) := by
  unfold group1A
  split
  · exact ⟨fun id => (countryStep_buf _ id).trans (eccStep_buf f.ecc s id), rfl, rfl⟩
  · exact .refl s

theorem keepsText_group4A (f : Group4A) (s : State) : KeepsText s (group4A f s) := by
  rcases group4A_cases f s with ⟨_, h⟩ | ⟨_, h⟩ <;> rw [h]
  · exact ⟨buf_eq_of_fields rfl rfl rfl rfl, rfl, rfl⟩
  · exact .refl s

/-! ### The text groups -/

/-- The INFO gate drops the group whole, and the text event touches no buffer. -/
theorem keepsStable_textGroup (id : BufId) (beB : Level) {writes : State → State} {s : State}
    (hw : KeepsStable s (writes s)) : KeepsStable s (textGroup id beB writes s) := by
  rcases textGroup_cases id beB writes s with ⟨_, h⟩ | ⟨_, h⟩ <;> rw [h]
  · exact (KeepsText.refl s).keepsStable
  · exact hw.trans_keepsText (keepsText_emitWhen _ _ _)

theorem keepsStable_writeSegment {s : State} (hwf : BuffersWf s) {id : BufId} {o : Nat} (ho : o < id.len)
    (c0 c1 : Byte) (i : Level) : KeepsStable s (writeSegment id o c0 c1 i s) := by
  refine .of_one_buf (fun id' hne => writeSegment_buf_other id id' hne o c0 c1 i s) fun p => ?_
  rw [writeSegment_buf_same]
  exact stableKept_writeSegment (hwf id) ho _ _ c0 c1 i p

theorem keepsStable_two_segments {s : State} (hwf : BuffersWf s) {id : BufId} {o : Nat} (ho : o + 3 < id.len)
    (c0 c1 c2 c3 : Byte) (i j : Level) :
    KeepsStable s (writeSegment id (o + 2) c2 c3 j (writeSegment id o c0 c1 i s)) := by
  refine .of_one_buf (id := id) (fun id' hne => ?_) fun p => ?_
  · rw [writeSegment_buf_other id id' hne, writeSegment_buf_other id id' hne]
  · rw [writeSegment_buf_same, writeSegment_buf_same, writeSegment_prog, writeSegment_thr]
    exact stableKept_two_segments (hwf id) ho _ _ c0 c1 c2 c3 i j p

/-- The RT intake up to the segments: the toggle step, then the effective length (R200, R204). -/
def rtPrepared (f : Bool) (n : Nat) (s : State) : State := setEfflen f n (rtSelect f s)

/-- Without a change of flag only the effective length is written. -/
theorem rtPrepared_of_active {f : Bool} {s : State} (hact : s.rtActive = some f) (n : Nat) :
    rtPrepared f n s = setEfflen f n s := by
  simp [rtPrepared, rtSelect, hact]

theorem rtPrepared_rtActive (f : Bool) (n : Nat) (s : State) : (rtPrepared f n s).rtActive = some f := by
  simp [rtPrepared]

theorem rtPrepared_thr (f : Bool) (n : Nat) (s : State) : (rtPrepared f n s).thr = s.thr := by
  rw [rtPrepared, setEfflen_thr]
  rcases rtSelect_cases f s with ⟨_, h⟩ | ⟨_, h⟩ <;> rw [h]
  exact setBuf_thr _ _ _

theorem rtPrepared_buf_other {f : Bool} {id : BufId} (hne : id ≠ .rt f) (n : Nat) (s : State) :
    (rtPrepared f n s).buf id = s.buf id := by
  rw [rtPrepared, setEfflen_buf_other f id hne]
  rcases rtSelect_cases f s with ⟨_, h⟩ | ⟨_, h⟩ <;> rw [h]
  rw [setBuf_buf_other _ _ hne]
  exact buf_eq_of_fields rfl rfl rfl rfl id

theorem buffersWf_rtPrepared {s : State} (hwf : BuffersWf s) (f : Bool) (n : Nat) :
    BuffersWf (rtPrepared f n s) := by
  intro id
  by_cases hid : id = .rt f
  · rw [hid, rtPrepared, setEfflen_buf_same]
    refine efflen_wf ?_
    rcases rtSelect_cases f s with ⟨_, h⟩ | ⟨_, h⟩ <;> rw [h]
    · exact hwf (.rt f)
    · rw [setBuf_buf_same]
      exact blank_wf _
  · rw [rtPrepared_buf_other hid]
    exact hwf id

/-- The toggle step resets at most the buffer it makes active, so what comes after it decides. -/
theorem KeepsStable.of_rtPrepared {f : Bool} {n : Nat} {s t : State} (h : KeepsStable (rtPrepared f n s) t)
    (hact : t.rtActive = some f) : KeepsStable s t := by
  intro id
  by_cases htoggled : MadeActive id s t
  · exact .inl htoggled
  refine .inr ?_
  obtain ⟨f', _, hinactive, hactive⟩ | hkept := h id
  · exact absurd ((rtPrepared_rtActive f n s).trans (hact.symm.trans hactive)) hinactive
  intro p
  rw [rtPrepared_thr] at hkept
  by_cases hid : id = .rt f
  · have hs : s.rtActive = some f := by
      by_contra hne
      exact htoggled ⟨f, hid, hne, hact⟩
    rw [rtPrepared_of_active hs, hid, setEfflen_buf_same] at hkept
    rw [hid]
    exact hkept p
  · rw [rtPrepared_buf_other hid] at hkept
    exact hkept p

theorem keepsStable_psSegment {s : State} (hwf : BuffersWf s) (lv : Levels) (addr : BitVec 2) (c0 c1 : Byte) :
    KeepsStable s (psSegment lv addr c0 c1 s) := by
  have ho : 2 * addr.toNat < BufId.ps.len := by
    change 2 * addr.toNat < 8
    omega
  exact keepsStable_textGroup _ _ (keepsStable_writeSegment hwf ho c0 c1 lv.d)

theorem keepsStable_group0A {s : State} (hwf : BuffersWf s) (lv : Levels) (f : Group0A) :
    KeepsStable s (group0A lv f s) := by
  have hbefore : KeepsText s (afAdd f.af2 (afAdd f.af1 (msStep f.ms (taStep f.ta s)))) :=
    (keepsText_taStep_msStep f.ta f.ms s).trans <| (keepsText_afAdd _ _).trans (keepsText_afAdd _ _)
  exact hbefore.trans_keepsStable (keepsStable_psSegment (hbefore.buffersWf hwf) _ _ _ _)

theorem keepsStable_group0B {s : State} (hwf : BuffersWf s) (lv : Levels) (f : Group0B) :
    KeepsStable s (group0B lv f s) := by
  have hbefore := keepsText_taStep_msStep f.ta f.ms s
  exact hbefore.trans_keepsStable (keepsStable_psSegment (hbefore.buffersWf hwf) _ _ _ _)

theorem keepsStable_group2A {s : State} (hwf : BuffersWf s) (lv : Levels) (f : Group2A) :
    KeepsStable s (group2A lv f s) := by
  have ho : 4 * f.addr.toNat + 3 < (BufId.rt f.f).len := by
    change 4 * f.addr.toNat + 3 < 64
    omega
  refine keepsStable_textGroup _ _ (.of_rtPrepared (f := f.f) (n := Config.rtLen) ?_ (by simp [writes2A]))
  exact keepsStable_two_segments (buffersWf_rtPrepared hwf _ _) ho _ _ _ _ _ _

theorem keepsStable_group2B {s : State} (hwf : BuffersWf s) (lv : Levels) (f : Group2B) :
    KeepsStable s (group2B lv f s) := by
  have ho : 2 * f.addr.toNat < (BufId.rt f.f).len := by
    change 2 * f.addr.toNat < 64
    omega
  refine keepsStable_textGroup _ _ (.of_rtPrepared (f := f.f) (n := Config.efflen2B) ?_ (by simp [writes2B]))
  exact keepsStable_writeSegment (buffersWf_rtPrepared hwf _ _) ho _ _ _

theorem keepsStable_group10A {s : State} (hwf : BuffersWf s) (lv : Levels) (f : Group10A) :
    KeepsStable s (group10A lv f s) := by
  have ho : 4 * f.addr.toNat + 3 < BufId.ptyn.len := by
    change 4 * f.addr.toNat + 3 < 8
    omega
  exact keepsStable_textGroup _ _ (keepsStable_two_segments hwf ho _ _ _ _ _ _)

/-- Whatever the group, its field decoder keeps the characters at count 0 but for regressing writes and the toggle. -/
theorem keepsStable_dispatchGroup {s : State} (hwf : BuffersWf s) (g : Group) (lv : Levels) :
    KeepsStable s (dispatchGroup g lv s) := by
  unfold dispatchGroup
  split
  · exact keepsStable_group0A hwf lv _
  · exact keepsStable_group0B hwf lv _
  · exact (keepsText_group1A _ s).keepsStable
  · exact keepsStable_group2A hwf lv _
  · exact keepsStable_group2B hwf lv _
  · exact (keepsText_group4A _ s).keepsStable
  · exact keepsStable_group10A hwf lv _
  · exact (KeepsText.refl s).keepsStable

/-! ### The instructions -/

/-- A decode is its common part, which writes no text, and its fields. -/
theorem keepsStable_after_commonPart {s : State} (hwf : BuffersWf s) (h : Head) {fields : State → State}
    (hfields : ∀ {s'}, BuffersWf s' → KeepsStable s' (fields s')) :
    KeepsStable s (fields (commonPart h s.begin)) :=
  have hcommon := keepsText_commonPart_begin h s
  hcommon.trans_keepsStable (hfields (hcommon.buffersWf hwf))

theorem keepsStable_decodeWith {s t : State} (hwf : BuffersWf s) {h : Head} {fields : State → State}
    (hnext : decodeWith h fields s = .next t) (hfields : ∀ {s'}, BuffersWf s' → KeepsStable s' (fields s')) :
    KeepsStable s t := by
  obtain ⟨_, rfl⟩ := decodeWith_next hnext
  exact keepsStable_after_commonPart hwf h hfields

theorem keepsStable_decodeRawGroup {s : State} (hwf : BuffersWf s) (g : Group) (lv : Levels) :
    KeepsStable s (decodeRawGroup g lv s) :=
  keepsStable_after_commonPart hwf (headOf g) fun hwf' => keepsStable_dispatchGroup hwf' g lv

/-- Every instruction that answers, CREATE and CLEAR apart, keeps the characters at count 0 but for regressing writes
and the toggle. -/
theorem exec_keepsStable {i : Instr} {s t : State} (hwf : BuffersWf s) (hnext : exec i s = .next t)
    (hcreate : i ≠ .create) (hclear : i ≠ .clear) : KeepsStable s t := by
  cases i with
  | create => exact absurd rfl hcreate
  | clear => exact absurd rfl hclear
  | g0A lv h f => exact keepsStable_decodeWith hwf hnext fun hwf' => keepsStable_group0A hwf' lv f
  | g0B lv h f => exact keepsStable_decodeWith hwf hnext fun hwf' => keepsStable_group0B hwf' lv f
  | g1A lv h f => exact keepsStable_decodeWith hwf hnext fun _ => (keepsText_group1A f _).keepsStable
  | g2A lv h f => exact keepsStable_decodeWith hwf hnext fun hwf' => keepsStable_group2A hwf' lv f
  | g2B lv h f => exact keepsStable_decodeWith hwf hnext fun hwf' => keepsStable_group2B hwf' lv f
  | g4A lv h f => exact keepsStable_decodeWith hwf hnext fun _ => (keepsText_group4A f _).keepsStable
  | g10A lv h f => exact keepsStable_decodeWith hwf hnext fun hwf' => keepsStable_group10A hwf' lv f
  | decodeRaw g lv =>
    obtain ⟨_, rfl⟩ := whenLive_next hnext
    exact keepsStable_decodeRawGroup hwf g lv
  | decodeHex chars =>
    rw [exec, execDecodeHex] at hnext
    obtain ⟨_, rfl⟩ := whenLive_next hnext
    cases parseHex chars with
    | none => exact .of_buf (finish_buf _ s)
    | some g => exact keepsStable_decodeRawGroup hwf g Levels.zero
  | destroy | getPi | getPty | getTp | getTa | getMs | getEcc | getCountry | getPs | getPtyn | getCt =>
    simp only [exec, execDestroy, execGetPi, execGetPty, execGetTp, execGetTa, execGetMs, execGetEcc, execGetCountry,
      execGetPs, execGetPtyn, execGetCt] at hnext
    obtain ⟨_, rfl⟩ := whenLive_next hnext
    exact .of_buf (buf_eq_of_fields rfl rfl rfl rfl)
  | getRt | setCorrection | setProgressive | setListener =>
    simp only [exec, execGetRt, execSetCorrection, execSetProgressive, execSetListener] at hnext
    obtain ⟨_, rfl⟩ := whenLive_next hnext
    refine .of_buf ?_
    split <;> exact buf_eq_of_fields rfl rfl rfl rfl
  -- The 25 group codes without a field decoder do the common part only (R150).
  | _ => exact keepsStable_decodeWith hwf hnext fun _ => (KeepsText.refl _).keepsStable

/-- Settles O41: at a position of count 0 that differs, the buffer was made active or the write rule regressed. -/
theorem stableCharacterChangesOnlyByRegressOrReset : Obligations.StableCharacterChangesOnlyByRegressOrReset := by
  intro i s t id p hwf hnext hzero hchanged
  by_cases hcreate : i = .create
  · exact .inl hcreate
  by_cases hclear : i = .clear
  · exact .inr (.inl hclear)
  obtain hactive | hkept := exec_keepsStable (wf_buf hwf) hnext hcreate hclear id
  · exact .inr (.inr (.inl hactive))
  obtain hsame | ⟨hpos, hle, hchr⟩ := hkept p hzero
  · exact absurd hsame hchanged
  · exact .inr (.inr (.inr ⟨_, hpos, hle, hchr, rfl⟩))

end Sys2Proof.Claims
end

/-!
PROOFS. The AF decoder (43_af_decoder): what a command does to AFSET and which AF events it has. Only `af_add` writes
the set; every other step of a decode leaves it and adds no AF event (R273, R274).
-/

namespace Sys2Proof.Claims

open Sys2Proof.Machine

/-! ### Codes and the set -/

/-- The mapping is one to one (R272). -/
theorem freqKhz_inj {m n : Byte} (h : freqKhz m = freqKhz n) : m = n := by
  simp only [freqKhz, Config.afBaseKhz, Config.afStepKhz] at h
  exact BitVec.eq_of_toNat_eq (by omega)

/-- The empty set has no member. -/
theorem afMember_empty (n : Byte) : afMember 0#204 n = false := by
  simp [afMember]

/-- The frequency codes (R271). -/
theorem isFrequencyCode_iff (n : Byte) : isFrequencyCode n = true ↔ 1 ≤ n.toNat ∧ n.toNat ≤ 204 := by
  rw [isFrequencyCode, Bool.and_eq_true, decide_eq_true_eq, decide_eq_true_eq, Config.afCodeMax]

/-- Inserting a frequency code adds it and nothing else. -/
theorem afMember_afInsert {m : Byte} (hm : isFrequencyCode m = true) (set : BitVec 204) (n : Byte) :
    afMember (afInsert set m) n = true ↔ afMember set n = true ∨ n = m := by
  rw [isFrequencyCode_iff] at hm
  simp only [afMember, afInsert, BitVec.getLsbD_or, BitVec.getLsbD_twoPow, Bool.and_eq_true, Bool.or_eq_true,
    decide_eq_true_eq, and_or_left, ← BitVec.toNat_inj]
  refine or_congr_right ?_
  omega

/-! ### A step that grows the set and reports what is new -/

/-- `khz` is the frequency of a code that is in the set of `t` and not in that of `s`. -/
def NewFrequency (s t : State) (khz : Nat) : Prop :=
  ∃ n : Byte, khz = freqKhz n ∧ afMember s.afset n = false ∧ afMember t.afset n = true

/-- From `s` to `t` AFSET loses no member, and the AF events added are one each of new frequencies (R273, R274). -/
structure ReportsNewAf (s t : State) : Prop where
  grows : ∀ n, afMember s.afset n = true → afMember t.afset n = true
  reports : ∀ khz, t.out.events.count (.af khz) = s.out.events.count (.af khz) ∨
    (NewFrequency s t khz ∧ t.out.events.count (.af khz) = s.out.events.count (.af khz) + 1)

/-- What leaves the set and the events reports nothing. -/
theorem ReportsNewAf.of_unchanged {s t : State} (hset : t.afset = s.afset) (hevents : t.out.events = s.out.events) :
    ReportsNewAf s t :=
  ⟨fun _ hn => by rwa [hset], fun _ => .inl (by rw [hevents])⟩

theorem ReportsNewAf.refl (s : State) : ReportsNewAf s s := .of_unchanged rfl rfl

/-- The second part does not report what the first has: the code is a member by then. -/
theorem ReportsNewAf.trans {s t u : State} (h : ReportsNewAf s t) (h' : ReportsNewAf t u) : ReportsNewAf s u := by
  refine ⟨fun n hn => h'.grows n (h.grows n hn), fun khz => ?_⟩
  obtain hcount | ⟨⟨n, hkhz, hold, hnew⟩, hcount⟩ := h.reports khz <;>
    obtain hcount' | ⟨⟨m, hkhz', hold', hnew'⟩, hcount'⟩ := h'.reports khz <;> rw [hcount', hcount]
  · exact .inl rfl
  · have hold : afMember s.afset m = false :=
      Bool.eq_false_iff.2 fun hmem => Bool.eq_false_iff.1 hold' (h.grows m hmem)
    exact .inr ⟨⟨m, hkhz', hold, hnew'⟩, rfl⟩
  · exact .inr ⟨⟨n, hkhz, hold, h'.grows n hnew⟩, rfl⟩
  · obtain rfl := freqKhz_inj (hkhz.symm.trans hkhz')
    exact absurd hnew (Bool.eq_false_iff.1 hold')

/-- A step that leaves the set and emits at most one event, of another kind, adds no AF event. -/
theorem ReportsNewAf.of_event {s t : State} {c : Bool} {e : Event} (hset : t.afset = s.afset)
    (hevents : t.out.events = s.out.events ++ if c then [e] else []) (he : e.kind ≠ .af) : ReportsNewAf s t := by
  refine ⟨fun _ hn => by rwa [hset], fun khz => .inl ?_⟩
  have hne : e ≠ .af khz := by rintro rfl; exact he rfl
  rw [hevents]
  cases c <;> simp [hne]

/-- An AF event is not lost. -/
theorem ReportsNewAf.mem {s t : State} (h : ReportsNewAf s t) {khz : Nat} (hmem : Event.af khz ∈ s.out.events) :
    Event.af khz ∈ t.out.events := by
  rw [← List.count_pos_iff] at hmem ⊢
  obtain hcount | ⟨_, hcount⟩ := h.reports khz <;> omega

/-- After an empty event list an AF event is there at most once. -/
theorem ReportsNewAf.count_le_one {s t : State} (h : ReportsNewAf s t) (hempty : s.out.events = []) (khz : Nat) :
    t.out.events.count (.af khz) ≤ 1 := by
  have hreports := h.reports khz
  rw [hempty, List.count_nil] at hreports
  omega

/-- After an empty event list an AF event is the report of a new frequency. -/
theorem ReportsNewAf.newFrequency {s t : State} (h : ReportsNewAf s t) (hempty : s.out.events = []) {khz : Nat}
    (hmem : Event.af khz ∈ t.out.events) : NewFrequency s t khz := by
  obtain hcount | ⟨hnew, _⟩ := h.reports khz
  · rw [hempty, List.count_nil] at hcount
    exact absurd hmem (List.count_eq_zero.1 hcount)
  · exact hnew

/-! ### `af_add` -/

theorem reportsNewAf_afAdd (n : Byte) (s : State) : ReportsNewAf s (afAdd n s) := by
  obtain ⟨hcode, hold, h⟩ | ⟨_, h⟩ := afAdd_cases n s <;> rw [h]
  · have hmember := afMember_afInsert hcode s.afset
    refine ⟨fun m hm => (hmember m).2 (.inl hm), fun khz => ?_⟩
    rw [emit_eq, emitWhen_events]
    by_cases hkhz : khz = freqKhz n
    · have hnew : NewFrequency s (({ s with afset := afInsert s.afset n }).emit (.af (freqKhz n))) khz :=
        ⟨n, hkhz, hold, (hmember n).2 (.inr rfl)⟩
      split
      · exact .inr ⟨hnew, by simp [hkhz]⟩
      · exact .inl (by simp)
    · refine .inl ?_
      split <;> simp [Ne.symm hkhz]
  · exact .refl s

theorem afAdd_listen (n : Byte) (s : State) : (afAdd n s).listen = s.listen := by
  obtain ⟨_, _, h⟩ | ⟨_, h⟩ := afAdd_cases n s <;> rw [h]
  rfl

/-- A new code is reported while AF is listened to. -/
theorem mem_afAdd_events {n : Byte} {s : State} (hlisten : s.listen.af = true) (hcode : isFrequencyCode n = true)
    (hold : afMember s.afset n = false) : Event.af (freqKhz n) ∈ (afAdd n s).out.events := by
  obtain ⟨_, _, h⟩ | ⟨hno, _⟩ := afAdd_cases n s
  · rw [h, emit_eq, emitWhen_events]
    simp [Event.kind, Listeners.get, hlisten]
  · simp [hcode, hold] at hno

/-- `af_add` adds no code but its own. -/
theorem eq_of_afMember_afAdd {m n : Byte} {s : State} (hold : afMember s.afset n = false)
    (hnew : afMember (afAdd m s).afset n = true) : n = m := by
  obtain ⟨hcode, _, h⟩ | ⟨_, h⟩ := afAdd_cases m s <;> rw [h] at hnew
  · simpa [hold] using (afMember_afInsert hcode s.afset n).1 hnew
  · exact absurd hnew (Bool.eq_false_iff.1 hold)

/-- Of two codes each one that is new is reported, equal codes included: the first call reports both (R276 case 5). -/
theorem mem_afAdd_afAdd_events {n a b : Byte} {s : State} (hn : n = a ∨ n = b) (hlisten : s.listen.af = true)
    (hcode : isFrequencyCode n = true) (hold : afMember s.afset n = false) :
    Event.af (freqKhz n) ∈ (afAdd b (afAdd a s)).out.events := by
  by_cases ha : n = a
  · subst ha
    exact (reportsNewAf_afAdd b _).mem (mem_afAdd_events hlisten hcode hold)
  · obtain rfl : n = b := hn.resolve_left ha
    have hstill : afMember (afAdd a s).afset n = false :=
      Bool.eq_false_iff.2 fun hmem => ha (eq_of_afMember_afAdd hold hmem)
    exact mem_afAdd_events ((congrArg Listeners.af (afAdd_listen a s)).trans hlisten) hcode hstill

/-! ### The other steps of a decode -/

theorem reportsNewAf_commonPart (h : Head) (s : State) : ReportsNewAf s (commonPart h s) := by
  have hpi : ReportsNewAf s (piStep h.pi s) :=
    .of_event (piStep_afset _ _) (piStep_events _ _) (by simp [Event.kind])
  have htp (s' : State) : ReportsNewAf s' (tpStep h.tp s') :=
    .of_event (tpStep_afset _ _) (tpStep_events _ _) (by simp [Event.kind])
  have hpty (s' : State) : ReportsNewAf s' (ptyStep h.pty s') :=
    .of_event (ptyStep_afset _ _) (ptyStep_events _ _) (by simp [Event.kind])
  exact hpi.trans <| (htp _).trans (hpty _)

theorem reportsNewAf_taStep_msStep (a m : Bool) (s : State) : ReportsNewAf s (msStep m (taStep a s)) := by
  have hta : ReportsNewAf s (taStep a s) :=
    .of_event (taStep_afset _ _) (taStep_events _ _) (by simp [Event.kind])
  have hms (s' : State) : ReportsNewAf s' (msStep m s') :=
    .of_event (msStep_afset _ _) (msStep_events _ _) (by simp [Event.kind])
  exact hta.trans (hms _)

theorem reportsNewAf_setBuf (id : BufId) (b : TextBuffer) (s : State) : ReportsNewAf s (s.setBuf id b) :=
  .of_unchanged (setBuf_afset id b s) (congrArg Result.events (setBuf_out id b s))

theorem reportsNewAf_writeSegment (id : BufId) (o : Nat) (c0 c1 : Byte) (i : Level) (s : State) :
    ReportsNewAf s (writeSegment id o c0 c1 i s) := reportsNewAf_setBuf _ _ _

/-- The RT intake up to the segments. -/
theorem reportsNewAf_rtPrepared (f : Bool) (n : Nat) (s : State) : ReportsNewAf s (rtPrepared f n s) := by
  have hselect : ReportsNewAf s (rtSelect f s) := by
    obtain ⟨_, h⟩ | ⟨_, h⟩ := rtSelect_cases f s <;> rw [h]
    · exact .refl s
    · exact .trans (t := { s with rtActive := some f }) (.of_unchanged rfl rfl) (reportsNewAf_setBuf _ _ _)
  exact hselect.trans (reportsNewAf_setBuf _ _ _)

/-- The one event of a text group is a text event. -/
theorem reportsNewAf_textGroup (id : BufId) (beB : Level) {writes : State → State} {s : State}
    (hw : ReportsNewAf s (writes s)) : ReportsNewAf s (textGroup id beB writes s) := by
  obtain ⟨_, h⟩ | ⟨_, h⟩ := textGroup_cases id beB writes s <;> rw [h]
  · exact .refl s
  · have hkind : id.event.kind ≠ .af := by cases id <;> simp [BufId.event, Event.kind]
    exact hw.trans (.of_event (emitWhen_afset _ _ _) (emitWhen_events _ _ _) hkind)

/-! ### The field decoders -/

theorem reportsNewAf_psSegment (lv : Levels) (addr : BitVec 2) (c0 c1 : Byte) (s : State) :
    ReportsNewAf s (psSegment lv addr c0 c1 s) :=
  reportsNewAf_textGroup _ _ (reportsNewAf_writeSegment _ _ _ _ _ _)

theorem reportsNewAf_group0A (lv : Levels) (f : Group0A) (s : State) : ReportsNewAf s (group0A lv f s) :=
  (reportsNewAf_taStep_msStep _ _ _).trans <| (reportsNewAf_afAdd _ _).trans <| (reportsNewAf_afAdd _ _).trans
    (reportsNewAf_psSegment _ _ _ _ _)

theorem reportsNewAf_group0B (lv : Levels) (f : Group0B) (s : State) : ReportsNewAf s (group0B lv f s) :=
  (reportsNewAf_taStep_msStep _ _ _).trans (reportsNewAf_psSegment _ _ _ _ _)

theorem reportsNewAf_group1A (f : Group1A) (s : State) : ReportsNewAf s (group1A f s) := by
  have hecc : ReportsNewAf s (eccStep f.ecc s) :=
    .of_event (eccStep_afset _ _) (eccStep_events _ _) (by simp [Event.kind])
  have hcountry (s' : State) : ReportsNewAf s' (countryStep s') :=
    .of_event (countryStep_afset _) (countryStep_events _) (by simp [Event.kind])
  unfold group1A
  split
  · exact hecc.trans (hcountry _)
  · exact .refl s

theorem reportsNewAf_group2A (lv : Levels) (f : Group2A) (s : State) : ReportsNewAf s (group2A lv f s) :=
  reportsNewAf_textGroup _ _ <| (reportsNewAf_rtPrepared _ _ _).trans <|
    (reportsNewAf_writeSegment _ _ _ _ _ _).trans (reportsNewAf_writeSegment _ _ _ _ _ _)

theorem reportsNewAf_group2B (lv : Levels) (f : Group2B) (s : State) : ReportsNewAf s (group2B lv f s) :=
  reportsNewAf_textGroup _ _ <| (reportsNewAf_rtPrepared _ _ _).trans (reportsNewAf_writeSegment _ _ _ _ _ _)

theorem reportsNewAf_group4A (f : Group4A) (s : State) : ReportsNewAf s (group4A f s) := by
  obtain ⟨_, h⟩ | ⟨_, h⟩ := group4A_cases f s <;> rw [h]
  · rw [emit_eq]
    exact .of_event rfl (emitWhen_events _ _ _) (by simp [Event.kind])
  · exact .refl s

theorem reportsNewAf_group10A (lv : Levels) (f : Group10A) (s : State) : ReportsNewAf s (group10A lv f s) :=
  reportsNewAf_textGroup _ _ <| (reportsNewAf_writeSegment _ _ _ _ _ _).trans (reportsNewAf_writeSegment _ _ _ _ _ _)

theorem reportsNewAf_dispatchGroup (g : Group) (lv : Levels) (s : State) :
    ReportsNewAf s (dispatchGroup g lv s) := by
  unfold dispatchGroup
  split
  · exact reportsNewAf_group0A _ _ _
  · exact reportsNewAf_group0B _ _ _
  · exact reportsNewAf_group1A _ _
  · exact reportsNewAf_group2A _ _ _
  · exact reportsNewAf_group2B _ _ _
  · exact reportsNewAf_group4A _ _
  · exact reportsNewAf_group10A _ _ _
  · exact .refl s

/-! ### The instructions -/

theorem reportsNewAf_decodeWith {h : Head} {fields : State → State} {s t : State}
    (hnext : decodeWith h fields s = .next t) (hfields : ∀ s', ReportsNewAf s' (fields s')) :
    ReportsNewAf s.begin t := by
  obtain ⟨_, rfl⟩ := decodeWith_next hnext
  exact (reportsNewAf_commonPart h _).trans (hfields _)

theorem reportsNewAf_decodeRawGroup (g : Group) (lv : Levels) (s : State) :
    ReportsNewAf s.begin (decodeRawGroup g lv s) :=
  (reportsNewAf_commonPart _ _).trans (reportsNewAf_dispatchGroup _ _ _)

/-- Every instruction that answers, CREATE and CLEAR apart, starts from an empty event list, loses no member of AFSET
and reports new frequencies only, each once. -/
theorem exec_reportsNewAf {i : Instr} {s t : State} (hnext : exec i s = .next t) (hcreate : i ≠ .create)
    (hclear : i ≠ .clear) : ReportsNewAf s.begin t := by
  cases i with
  | create => exact absurd rfl hcreate
  | clear => exact absurd rfl hclear
  | g0A lv h f => exact reportsNewAf_decodeWith hnext (reportsNewAf_group0A lv f)
  | g0B lv h f => exact reportsNewAf_decodeWith hnext (reportsNewAf_group0B lv f)
  | g1A lv h f => exact reportsNewAf_decodeWith hnext (reportsNewAf_group1A f)
  | g2A lv h f => exact reportsNewAf_decodeWith hnext (reportsNewAf_group2A lv f)
  | g2B lv h f => exact reportsNewAf_decodeWith hnext (reportsNewAf_group2B lv f)
  | g4A lv h f => exact reportsNewAf_decodeWith hnext (reportsNewAf_group4A f)
  | g10A lv h f => exact reportsNewAf_decodeWith hnext (reportsNewAf_group10A lv f)
  | decodeRaw g lv =>
    obtain ⟨_, rfl⟩ := whenLive_next hnext
    exact reportsNewAf_decodeRawGroup g lv s
  | decodeHex chars =>
    rw [exec, execDecodeHex] at hnext
    obtain ⟨_, rfl⟩ := whenLive_next hnext
    cases parseHex chars with
    | none => exact .of_unchanged rfl rfl
    | some g => exact reportsNewAf_decodeRawGroup g Levels.zero s
  | destroy | getPi | getPty | getTp | getTa | getMs | getEcc | getCountry | getPs | getPtyn | getCt =>
    simp only [exec, execDestroy, execGetPi, execGetPty, execGetTp, execGetTa, execGetMs, execGetEcc, execGetCountry,
      execGetPs, execGetPtyn, execGetCt] at hnext
    obtain ⟨_, rfl⟩ := whenLive_next hnext
    exact .of_unchanged rfl rfl
  | getRt | setCorrection | setProgressive | setListener =>
    simp only [exec, execGetRt, execSetCorrection, execSetProgressive, execSetListener] at hnext
    obtain ⟨_, rfl⟩ := whenLive_next hnext
    split <;> exact .of_unchanged rfl rfl
  -- The 25 group codes without a field decoder do the common part only (R150).
  | _ => exact reportsNewAf_decodeWith hnext .refl

theorem exec_create_events {s t : State} (hnext : exec .create s = .next t) : t.out.events = [] := by
  cases hnext
  rfl

theorem exec_clear_events {s t : State} (hnext : exec .clear s = .next t) : t.out.events = [] := by
  rw [exec, execClear] at hnext
  obtain ⟨_, rfl⟩ := whenLive_next hnext
  rfl

/-- An instruction that answers reports new frequencies only, each once, or it is CREATE or CLEAR and has no event. -/
theorem exec_afEvents {i : Instr} {s t : State} (hnext : exec i s = .next t) :
    ReportsNewAf s.begin t ∨ t.out.events = [] := by
  by_cases hcreate : i = .create
  · exact .inr (exec_create_events (hcreate ▸ hnext))
  by_cases hclear : i = .clear
  · exact .inr (exec_clear_events (hclear ▸ hnext))
  exact .inl (exec_reportsNewAf hnext hcreate hclear)

/-- The AF events of a group 0A: each new code of block C is reported, and the PS segment loses no event. -/
theorem mem_group0A_events {lv : Levels} {f : Group0A} {n : Byte} {s : State} (hn : n = f.af1 ∨ n = f.af2)
    (hlisten : s.listen.af = true) (hcode : isFrequencyCode n = true) (hold : afMember s.afset n = false) :
    Event.af (freqKhz n) ∈ (group0A lv f s).out.events :=
  (reportsNewAf_psSegment _ _ _ _ _).mem
    (mem_afAdd_afAdd_events (s := msStep f.ms (taStep f.ta s)) hn hlisten hcode hold)

/-- Settles O30: the steps of a command lose no member of AFSET and report what is new, and a command starts without
events. -/
theorem afSetOnlyGrows : Obligations.AfSetOnlyGrows := by
  refine ⟨?_, ?_, ?_, ?_, ?_, ?_⟩
  · intro i s t n hnext hcreate hclear
    exact (exec_reportsNewAf hnext hcreate hclear).grows n
  · intro s hlive
    rw [exec, execClear, whenLive_live _ hlive]
    exact ⟨_, rfl, afMember_empty⟩
  · intro s
    exact ⟨_, rfl, afMember_empty⟩
  · intro i s t khz hnext hmem
    obtain hreports | hempty := exec_afEvents hnext
    · exact hreports.newFrequency rfl hmem
    · simp [hempty] at hmem
  · intro lv h f s n hlive hlisten hn hcode hold
    exact ⟨_, decodeWith_live h (group0A lv f) hlive,
      mem_group0A_events (s := commonPart h s.begin) hn hlisten hcode hold⟩
  · intro i s t khz hnext
    obtain hreports | hempty := exec_afEvents hnext
    · exact hreports.count_le_one rfl khz
    · simp [hempty]

end Sys2Proof.Claims

/-!
PROOFS. The clock time (44_clock_time): what a group 4A with an invalid hour or minute does.
-/

namespace Sys2Proof.Claims

open Sys2Proof.Machine

/-- The validity test fails exactly on an hour above 23 or a minute above 59 (R292). -/
theorem clockFieldsValid_eq_false_iff (f : Group4A) :
    clockFieldsValid f = false ↔ 23 < f.hour.toNat ∨ 59 < f.minute.toNat := by
  rw [clockFieldsValid, Bool.and_eq_false_iff, decide_eq_false_iff_not, decide_eq_false_iff_not, not_le, not_le]

/-- Without a valid hour and minute the field decoder of group 4A does nothing (R298). -/
theorem group4A_of_invalid {f : Group4A} (hinvalid : clockFieldsValid f = false) (s : State) : group4A f s = s := by
  rcases group4A_cases f s with ⟨hvalid, _⟩ | ⟨_, h⟩
  · simp [hinvalid] at hvalid
  · exact h

/-- With an invalid hour or minute a group 4A is its common part alone. -/
theorem exec_g4A_of_invalid {f : Group4A} {s : State} (hlive : s.life = .live) (hinvalid : clockFieldsValid f = false)
    (lv : Levels) (h : Head) : exec (.g4A lv h f) s = .next (commonPart h s.begin) := by
  rw [exec, execG4A, decodeWith_live h _ hlive, group4A_of_invalid hinvalid]

/-- The common part of a command reports no clock time. -/
theorem ct_notMem_commonPart_begin_events (h : Head) (s : State) (c : ClockTime) :
    Event.ct c ∉ (commonPart h s.begin).out.events := by
  simp [mem_commonPart_begin_events]

/-- Settles O37: such a group answers the state the common part leaves, which keeps CT and reports none. -/
theorem invalidClockGroupLeavesCt : Obligations.InvalidClockGroupLeavesCt := by
  intro lv h f s hlive hrange
  have hinvalid : clockFieldsValid f = false := (clockFieldsValid_eq_false_iff f).2 hrange
  exact ⟨_, exec_g4A_of_invalid hlive hinvalid lv h, decoded_commonPart_begin h s, commonPart_ct h s.begin,
    ct_notMem_commonPart_begin_events h s, commonPart_begin_eq_commonFrom h s⟩

end Sys2Proof.Claims

/-!
PROOFS. The commands (45_commands): what each setter of the configuration does while LIFE is LIVE (R327 to R330) and
what the accessors return (R331 to R342).
-/

namespace Sys2Proof.Claims

open Sys2Proof.Machine

/-! ### Operand codes (R109) -/

theorem levelOfCode_eq_some_iff (n : Nat) (l : Level) : levelOfCode n = some l ↔ l.toNat = n := by
  have hlevel : l.toNat < 4 := l.isLt
  by_cases hn : n < 4
  · simp [levelOfCode, hn, ← BitVec.toNat_inj, Nat.mod_eq_of_lt hn, eq_comm]
  · have hne : l.toNat ≠ n := by omega
    simp [levelOfCode, hn, hne]

theorem levelOfCode_eq_none_iff (n : Nat) : levelOfCode n = none ↔ 3 < n := by
  simp only [levelOfCode, ite_eq_right_iff, reduceCtorEq, imp_false]
  omega

theorem bitOfCode_eq_some_iff (n : Nat) (b : Bool) : bitOfCode n = some b ↔ n = b.toNat := by
  match n with
  | 0 => cases b <;> simp [bitOfCode]
  | 1 => cases b <;> simp [bitOfCode]
  | n + 2 =>
    have hbit : b.toNat < 2 := b.toNat_lt
    have hne : n + 2 ≠ b.toNat := by omega
    simp [bitOfCode, hne]

theorem bitOfCode_eq_none_iff (n : Nat) : bitOfCode n = none ↔ 1 < n := by
  match n with
  | 0 | 1 | n + 2 => simp [bitOfCode]

/-! ### The setters -/

/-- SET_CORRECTION with three good operands writes the threshold they name; with a bad one it is rejected (R327). -/
theorem exec_setCorrection_cases (kind axis level : Nat) {s : State} (hlive : s.life = .live) :
    (∃ k x l, kindOfCode kind = some k ∧ axisOfCode axis = some x ∧ levelOfCode level = some l ∧
        exec (.setCorrection kind axis level) s = .next { s with thr := s.thr.set k x l, out := Result.okay }) ∨
      ((kindOfCode kind = none ∨ axisOfCode axis = none ∨ levelOfCode level = none) ∧
        exec (.setCorrection kind axis level) s = .next (rejected s)) := by
  rw [exec, execSetCorrection, whenLive_live _ hlive]
  cases kindOfCode kind with
  | none => exact .inr ⟨.inl rfl, rfl⟩
  | some k =>
    cases axisOfCode axis with
    | none => exact .inr ⟨.inr (.inl rfl), rfl⟩
    | some x =>
      cases levelOfCode level with
      | none => exact .inr ⟨.inr (.inr rfl), rfl⟩
      | some l => exact .inl ⟨k, x, l, rfl, rfl, rfl, rfl⟩

/-- SET_PROGRESSIVE with two good operands writes the flag they name; with a bad one it is rejected (R328). -/
theorem exec_setProgressive_cases (kind enabled : Nat) {s : State} (hlive : s.life = .live) :
    (∃ k b, kindOfCode kind = some k ∧ bitOfCode enabled = some b ∧
        exec (.setProgressive kind enabled) s = .next { s with prog := s.prog.set k b, out := Result.okay }) ∨
      ((kindOfCode kind = none ∨ bitOfCode enabled = none) ∧
        exec (.setProgressive kind enabled) s = .next (rejected s)) := by
  rw [exec, execSetProgressive, whenLive_live _ hlive]
  cases kindOfCode kind with
  | none => exact .inr ⟨.inl rfl, rfl⟩
  | some k =>
    cases bitOfCode enabled with
    | none => exact .inr ⟨.inr rfl, rfl⟩
    | some b => exact .inl ⟨k, b, rfl, rfl, rfl⟩

/-- SET_LISTENER with two good operands writes the bit they name; with a bad one it is rejected (R329). -/
theorem exec_setListener_cases (k enabled : Nat) {s : State} (hlive : s.life = .live) :
    (∃ e b, eventKindOfCode k = some e ∧ bitOfCode enabled = some b ∧
        exec (.setListener k enabled) s = .next { s with listen := s.listen.set e b, out := Result.okay }) ∨
      ((eventKindOfCode k = none ∨ bitOfCode enabled = none) ∧
        exec (.setListener k enabled) s = .next (rejected s)) := by
  rw [exec, execSetListener, whenLive_live _ hlive]
  cases eventKindOfCode k with
  | none => exact .inr ⟨.inl rfl, rfl⟩
  | some e =>
    cases bitOfCode enabled with
    | none => exact .inr ⟨.inr rfl, rfl⟩
    | some b => exact .inl ⟨e, b, rfl, rfl, rfl⟩

/-- Settles O44: the operands decide which of the setter's two cases holds, and writing one threshold leaves the other
three. -/
theorem setCorrectionSetsOneThreshold : Obligations.SetCorrectionSetsOneThreshold := by
  refine ⟨fun _ _ _ => rfl, ⟨rfl, rfl, fun _ => rfl⟩, fun kind axis level s hlive => ?_⟩
  obtain ⟨k, x, l, hk, hx, hl, hexec⟩ | ⟨hbad, hexec⟩ := exec_setCorrection_cases kind axis level hlive
  · refine ⟨fun k' x' hk' hx' _ => ?_, fun hbad => ?_⟩
    · obtain rfl : k = k' := Option.some.inj (hk.symm.trans hk')
      obtain rfl : x = x' := Option.some.inj (hx.symm.trans hx')
      refine ⟨_, hexec, ?_, fun k' x' => thresholds_get_set_other s.thr k k' x x' l, rfl, rfl⟩
      rw [thresholds_get_set_same]
      exact (levelOfCode_eq_some_iff level l).1 hl
    · rw [← levelOfCode_eq_none_iff] at hbad
      simp [hk, hx, hl] at hbad
  · refine ⟨fun k x hk hx hlt => ?_, fun _ => hexec⟩
    rw [levelOfCode_eq_none_iff] at hbad
    simp only [hk, hx, reduceCtorEq, false_or] at hbad
    omega

/-- Settles O45: the operands decide which of the setter's two cases holds, and writing one flag leaves the other. -/
theorem setProgressiveSetsOneFlag : Obligations.SetProgressiveSetsOneFlag := by
  refine ⟨fun _ _ => rfl, ⟨rfl, rfl, fun _ => rfl⟩, fun kind enabled s hlive => ?_⟩
  obtain ⟨k, b, hk, hb, hexec⟩ | ⟨hbad, hexec⟩ := exec_setProgressive_cases kind enabled hlive
  · refine ⟨fun k' hk' _ => ?_, fun hbad => ?_⟩
    · obtain rfl : k = k' := Option.some.inj (hk.symm.trans hk')
      refine ⟨_, hexec, ?_, fun k' => progressive_get_set_other s.prog k k' b, rfl, rfl⟩
      rw [progressive_get_set_same, (bitOfCode_eq_some_iff enabled b).1 hb]
      cases b <;> rfl
    · rw [← bitOfCode_eq_none_iff] at hbad
      simp [hk, hb] at hbad
  · refine ⟨fun k hk hbit => ?_, fun _ => hexec⟩
    rw [bitOfCode_eq_none_iff] at hbad
    simp only [hk, reduceCtorEq, false_or] at hbad
    omega

/-- Settles O48: each setter writes its register or is rejected, and a segment is written with the settings of its
buffer's kind. -/
theorem settersChangeOnlyTheirRegister : Obligations.SettersChangeOnlyTheirRegister := by
  refine ⟨fun kind axis level s hlive => ?_, fun kind enabled s hlive => ?_, fun k enabled s hlive => ?_,
    writeSegment_buf_same⟩
  · obtain ⟨_, _, _, _, _, _, hexec⟩ | ⟨_, hexec⟩ := exec_setCorrection_cases kind axis level hlive <;>
      exact ⟨_, hexec, rfl⟩
  · obtain ⟨_, _, _, _, hexec⟩ | ⟨_, hexec⟩ := exec_setProgressive_cases kind enabled hlive <;>
      exact ⟨_, hexec, rfl⟩
  · obtain ⟨_, _, _, _, hexec⟩ | ⟨_, hexec⟩ := exec_setListener_cases k enabled hlive <;>
      exact ⟨_, hexec, rfl⟩

/-! ### The accessors -/

/-- A live accessor returns its value and changes nothing but the result (R342). -/
theorem whenLive_answer (value : State → Value) {s : State} (hlive : s.life = .live) :
    whenLive s (fun s => s.answer (value s)) = .next (resultOnly s (value s)) :=
  whenLive_live _ hlive

/-- Settles O49: each of the seven answers with its register. -/
theorem scalarAccessorsReadTheirRegister : Obligations.ScalarAccessorsReadTheirRegister := by
  refine ⟨⟨rfl, rfl, rfl, rfl, rfl, rfl, rfl⟩, fun s hlive => ⟨?_, ?_, ?_, ?_, ?_, ?_, ?_⟩⟩
  · exact whenLive_answer (fun s => .pi s.pi) hlive
  · exact whenLive_answer (fun s => .pty s.pty) hlive
  · exact whenLive_answer (fun s => .tp s.tp) hlive
  · exact whenLive_answer (fun s => .ta s.ta) hlive
  · exact whenLive_answer (fun s => .ms s.ms) hlive
  · exact whenLive_answer (fun s => .ecc s.ecc) hlive
  · exact whenLive_answer (fun s => .country s.country) hlive

/-- The model's view of a buffer is the view of its published copy (R244). -/
theorem isViewOf_view (s : State) (id : BufId) : IsViewOf id.len (s.buf id) (s.view id) := by
  refine ⟨rfl, by simp [State.view], by simp [State.view], fun p hp => ?_⟩
  simp [State.view, hp]

/-- Settles O50: both accessors answer with the view of their buffer, which has length 8. -/
theorem nameAccessorsViewThePublishedCopy : Obligations.NameAccessorsViewThePublishedCopy := by
  refine ⟨⟨rfl, rfl⟩, fun s hlive => ⟨s.view .ps, s.view .ptyn, ?_, isViewOf_view s .ps, ?_, isViewOf_view s .ptyn⟩⟩
  · exact whenLive_answer (fun s => .text (s.view .ps)) hlive
  · exact whenLive_answer (fun s => .text (s.view .ptyn)) hlive

/-- GET_CT reports the stored clock time (R340). -/
theorem exec_getCt {s : State} (hlive : s.life = .live) :
    exec .getCt s = .next (resultOnly s (.clock (s.ct.map readingOf))) :=
  whenLive_answer (fun s => .clock (s.ct.map readingOf)) hlive

/-- A valid clock time has an offset of at most 31 half hours either way (R30). -/
theorem offsetHh_range_of_valid {c : ClockTime} (hvalid : c.valid = true) : -31 ≤ c.offsetHh ∧ c.offsetHh ≤ 31 := by
  simp only [ClockTime.valid, Bool.and_eq_true, decide_eq_true_eq] at hvalid
  obtain ⟨⟨_, hlow⟩, hhigh⟩ := hvalid
  exact ⟨hlow, hhigh⟩

/-- Settles O52: the offset of a valid clock time is 30 times a number from -31 to 31. -/
theorem getCtReportsMinutes : Obligations.GetCtReportsMinutes := by
  refine ⟨rfl, fun s hlive => ⟨fun hct => ?_, fun c hct => ?_⟩⟩
  · rw [exec_getCt hlive, hct, Option.map_none]
  · refine ⟨readingOf c, ?_, rfl, rfl, rfl, rfl, rfl, rfl, fun hvalid => ?_⟩
    · rw [exec_getCt hlive, hct, Option.map_some]
    · have hrange := offsetHh_range_of_valid hvalid
      have hoffset : (readingOf c).offsetMinutes = 30 * c.offsetHh := rfl
      omega

end Sys2Proof.Claims

/-!
PROOFS. The round trips of the encoding (30_encoding): a group word is its opcode, its common fields and a payload of 37
bits, each format splits the payload into its fields (R91 to R100), and each command has its code and its number of
operands (R108).
-/

namespace Sys2Proof.Claims

open Sys2Proof.Machine
open BitVec (extractLsb'_append_eq_ite extractLsb'_append_extractLsb'_eq_extractLsb' getElem_append)

/-! ### A group word and its payload -/

/-- Below bit 37 a word is its payload. -/
theorem extractLsb'_pack {start len : Nat} (op : BitVec 5) (h : Head) (p : BitVec 37) (hle : start + len ≤ 37) :
    (pack op h p).extractLsb' start len = p.extractLsb' start len :=
  BitVec.extractLsb'_append_eq_of_add_le hle

theorem getElem_pack {i : Nat} (op : BitVec 5) (h : Head) (p : BitVec 37) (hlt : i < 37) :
    (pack op h p)[i] = p[i] := by
  rw [pack]
  exact (getElem_append ..).trans (dif_pos hlt)

@[simp] theorem opcode_pack (op : BitVec 5) (h : Head) (p : BitVec 37) : opcode (pack op h p) = op := by
  simp [opcode, pack, extractLsb'_append_eq_ite (w := 37), extractLsb'_append_eq_ite (w := 5),
    extractLsb'_append_eq_ite (w := 1)]

@[simp] theorem headOf_pack (op : BitVec 5) (h : Head) (p : BitVec 37) : headOf (pack op h p) = h := by
  simp [headOf, pack, extractLsb'_append_eq_ite (w := 37), extractLsb'_append_eq_ite (w := 5),
    extractLsb'_append_eq_ite (w := 1), getElem_append (m := 37), getElem_append (m := 5), getElem_append (m := 1)]

/-- A flag is a field of width 1. -/
theorem ofBool_getLsbD (g : Group) (i : Nat) : BitVec.ofBool (g.getLsbD i) = g.extractLsb' i 1 := by
  apply BitVec.eq_of_getLsbD_eq
  intro j hj
  obtain rfl : j = 0 := by omega
  simp

/-- A word is put together again from its opcode, its common fields and the bits below. -/
theorem pack_opcode_headOf (g : Group) : pack (opcode g) (headOf g) (g.extractLsb' 0 37) = g := by
  simp only [pack, opcode, headOf, ofBool_getLsbD]
  repeat rw [extractLsb'_append_extractLsb'_eq_extractLsb' (by rfl)]
  exact BitVec.extractLsb'_eq_self

/-! ### The formats

Reading the fields of a packed payload gives the format back, and packing the fields of a word gives its low 37 bits. -/

@[simp] theorem restOf_pack (op : BitVec 5) (h : Head) (r : Rest) :
    restOf (pack op h (payloadRest r)) = r := by
  simp [restOf, payloadRest, extractLsb'_pack, extractLsb'_append_eq_ite (w := 16)]

@[simp] theorem fields0A_pack (op : BitVec 5) (h : Head) (f : Group0A) :
    fields0A (pack op h (payload0A f)) = f := by
  simp [fields0A, payload0A, getElem_pack, extractLsb'_pack, extractLsb'_append_eq_ite (w := 8),
    extractLsb'_append_eq_ite (w := 2), getElem_append (m := 8), getElem_append (m := 2), getElem_append (m := 1)]

@[simp] theorem fields0B_pack (op : BitVec 5) (h : Head) (f : Group0B) :
    fields0B (pack op h (payload0B f)) = f := by
  simp [fields0B, payload0B, getElem_pack, extractLsb'_pack, extractLsb'_append_eq_ite (w := 8),
    extractLsb'_append_eq_ite (w := 16), extractLsb'_append_eq_ite (w := 2), getElem_append (m := 8),
    getElem_append (m := 16), getElem_append (m := 2), getElem_append (m := 1)]

@[simp] theorem fields1A_pack (op : BitVec 5) (h : Head) (f : Group1A) :
    fields1A (pack op h (payload1A f)) = f := by
  simp [fields1A, payload1A, getElem_pack, extractLsb'_pack, extractLsb'_append_eq_ite (w := 16),
    extractLsb'_append_eq_ite (w := 8), extractLsb'_append_eq_ite (w := 4), extractLsb'_append_eq_ite (w := 3),
    extractLsb'_append_eq_ite (w := 1), getElem_append (m := 16), getElem_append (m := 8), getElem_append (m := 4),
    getElem_append (m := 3), getElem_append (m := 1)]

@[simp] theorem fields2A_pack (op : BitVec 5) (h : Head) (f : Group2A) :
    fields2A (pack op h (payload2A f)) = f := by
  simp [fields2A, payload2A, getElem_pack, extractLsb'_pack, extractLsb'_append_eq_ite (w := 8),
    extractLsb'_append_eq_ite (w := 4), getElem_append (m := 8), getElem_append (m := 4)]

@[simp] theorem fields2B_pack (op : BitVec 5) (h : Head) (f : Group2B) :
    fields2B (pack op h (payload2B f)) = f := by
  simp [fields2B, payload2B, getElem_pack, extractLsb'_pack, extractLsb'_append_eq_ite (w := 8),
    extractLsb'_append_eq_ite (w := 16), extractLsb'_append_eq_ite (w := 4), getElem_append (m := 8),
    getElem_append (m := 16), getElem_append (m := 4)]

@[simp] theorem fields4A_pack (op : BitVec 5) (h : Head) (f : Group4A) :
    fields4A (pack op h (payload4A f)) = f := by
  simp [fields4A, payload4A, getElem_pack, extractLsb'_pack, extractLsb'_append_eq_ite (w := 5),
    extractLsb'_append_eq_ite (w := 1), extractLsb'_append_eq_ite (w := 6), extractLsb'_append_eq_ite (w := 17),
    getElem_append (m := 5), getElem_append (m := 1)]

@[simp] theorem fields10A_pack (op : BitVec 5) (h : Head) (f : Group10A) :
    fields10A (pack op h (payload10A f)) = f := by
  simp [fields10A, payload10A, getElem_pack, extractLsb'_pack, extractLsb'_append_eq_ite (w := 8),
    extractLsb'_append_eq_ite (w := 1), extractLsb'_append_eq_ite (w := 3), getElem_append (m := 8),
    getElem_append (m := 1), getElem_append (m := 3)]

@[simp] theorem payloadRest_restOf (g : Group) : payloadRest (restOf g) = g.extractLsb' 0 37 := by
  simp only [payloadRest, restOf]
  repeat rw [extractLsb'_append_extractLsb'_eq_extractLsb' (by rfl)]

@[simp] theorem payload0A_fields0A (g : Group) : payload0A (fields0A g) = g.extractLsb' 0 37 := by
  simp only [payload0A, fields0A, ofBool_getLsbD]
  repeat rw [extractLsb'_append_extractLsb'_eq_extractLsb' (by rfl)]

@[simp] theorem payload0B_fields0B (g : Group) : payload0B (fields0B g) = g.extractLsb' 0 37 := by
  simp only [payload0B, fields0B, ofBool_getLsbD]
  repeat rw [extractLsb'_append_extractLsb'_eq_extractLsb' (by rfl)]

@[simp] theorem payload1A_fields1A (g : Group) : payload1A (fields1A g) = g.extractLsb' 0 37 := by
  simp only [payload1A, fields1A, ofBool_getLsbD]
  repeat rw [extractLsb'_append_extractLsb'_eq_extractLsb' (by rfl)]

@[simp] theorem payload2A_fields2A (g : Group) : payload2A (fields2A g) = g.extractLsb' 0 37 := by
  simp only [payload2A, fields2A, ofBool_getLsbD]
  repeat rw [extractLsb'_append_extractLsb'_eq_extractLsb' (by rfl)]

@[simp] theorem payload2B_fields2B (g : Group) : payload2B (fields2B g) = g.extractLsb' 0 37 := by
  simp only [payload2B, fields2B, ofBool_getLsbD]
  repeat rw [extractLsb'_append_extractLsb'_eq_extractLsb' (by rfl)]

@[simp] theorem payload4A_fields4A (g : Group) : payload4A (fields4A g) = g.extractLsb' 0 37 := by
  simp only [payload4A, fields4A, ofBool_getLsbD]
  repeat rw [extractLsb'_append_extractLsb'_eq_extractLsb' (by rfl)]

@[simp] theorem payload10A_fields10A (g : Group) : payload10A (fields10A g) = g.extractLsb' 0 37 := by
  simp only [payload10A, fields10A, ofBool_getLsbD]
  repeat rw [extractLsb'_append_extractLsb'_eq_extractLsb' (by rfl)]

/-! ### Groups -/

/-- Encoding the instruction a word is gives the word and its levels back. -/
theorem encode_decodeGroup (g : Group) (lv : Levels) : encode (decodeGroup g lv) = .group g lv := by
  have hlt : (opcode g).toNat < 32 := (opcode g).isLt
  have hpack : pack (BitVec.ofNat 5 (opcode g).toNat) (headOf g) (g.extractLsb' 0 37) = g := by
    rw [BitVec.ofNat_toNat, BitVec.setWidth_eq, pack_opcode_headOf]
  unfold decodeGroup
  generalize (opcode g).toNat = code at hlt hpack ⊢
  interval_cases code <;> simp [encode, hpack]

/-- An instruction whose frame is a group is the one the group is. -/
theorem decodeGroup_of_encode {i : Instr} {g : Group} {lv : Levels} (henc : encode i = .group g lv) :
    decodeGroup g lv = i := by
  cases i with
  | create | destroy | clear | decodeHex | decodeRaw | setCorrection | setProgressive | setListener | getPi | getPty
  | getTp | getTa | getMs | getEcc | getCountry | getPs | getRt | getPtyn | getCt => cases henc
  | _ =>
    cases henc
    simp [decodeGroup]

/-! ### Commands -/

/-- What decoding the frame of a command must give: the instruction it is the frame of if it is well formed, an error
if it is not. -/
def DecodesAs (code : BitVec 5) (ops : List Nat) : Except DecodeError Instr → Prop
  | .ok i => Frame.wf (.command code ops) = true ∧ encode i = .command code ops
  | .error _ => Frame.wf (.command code ops) = false

/-- The commands whose only condition is the number of operands: all but DECODE_HEX and DECODE_RAW. -/
def countedCode (code : BitVec 5) : Bool := assignedCode code && code != 3#5 && code != 4#5

theorem wf_of_countedCode {code : BitVec 5} (hcode : countedCode code = true) (ops : List Nat) :
    Frame.wf (.command code ops) = (ops.length == operandCount code) := by
  simp only [countedCode, Bool.and_eq_true, bne_iff_ne] at hcode
  obtain ⟨⟨hassigned, hhex⟩, hraw⟩ := hcode
  rw [Frame.wf, operandCountOk, operandRangeOk, hassigned, beq_false_of_ne hhex, bne_iff_ne.2 hraw]
  simp

section Counted

variable {code : BitVec 5} (hcode : countedCode code = true) (ops : List Nat)

include hcode

theorem noOperand_decodesAs {i : Instr} (hcount : operandCount code = 0) (henc : encode i = .command code []) :
    DecodesAs code ops (noOperand code ops i) := by
  have hwf := wf_of_countedCode hcode ops
  rw [hcount] at hwf
  match ops with
  | [] => exact ⟨hwf, henc⟩
  | _ :: _ => exact hwf

theorem oneOperand_decodesAs {i : Nat → Instr} (hcount : operandCount code = 1)
    (henc : ∀ x, encode (i x) = .command code [x]) : DecodesAs code ops (oneOperand code ops i) := by
  have hwf := wf_of_countedCode hcode ops
  rw [hcount] at hwf
  match ops with
  | [x] => exact ⟨hwf, henc x⟩
  | [] | _ :: _ :: _ => exact hwf

theorem twoOperands_decodesAs {i : Nat → Nat → Instr} (hcount : operandCount code = 2)
    (henc : ∀ x y, encode (i x y) = .command code [x, y]) : DecodesAs code ops (twoOperands code ops i) := by
  have hwf := wf_of_countedCode hcode ops
  rw [hcount] at hwf
  match ops with
  | [x, y] => exact ⟨hwf, henc x y⟩
  | [] | [_] | _ :: _ :: _ :: _ => exact hwf

theorem threeOperands_decodesAs {i : Nat → Nat → Nat → Instr} (hcount : operandCount code = 3)
    (henc : ∀ x y z, encode (i x y z) = .command code [x, y, z]) : DecodesAs code ops (threeOperands code ops i) := by
  have hwf := wf_of_countedCode hcode ops
  rw [hcount] at hwf
  match ops with
  | [x, y, z] => exact ⟨hwf, henc x y z⟩
  | [] | [_] | [_, _] | _ :: _ :: _ :: _ :: _ => exact hwf

end Counted

/-- A DECODE_RAW frame is well formed when it has a 64-bit group and four 2-bit levels (R142). -/
theorem wf_decodeRaw_iff (g a b c d : Nat) :
    Frame.wf (.command 4#5 [g, a, b, c, d]) = true ↔ g < 2 ^ 64 ∧ a < 4 ∧ b < 4 ∧ c < 4 ∧ d < 4 := by
  simp [Frame.wf, assignedCode, operandCountOk, operandCount, operandRangeOk]

theorem rawOperands_decodesAs (ops : List Nat) : DecodesAs 4#5 ops (rawOperands 4#5 ops) := by
  match ops with
  | [g, a, b, c, d] =>
    have hwf := wf_decodeRaw_iff g a b c d
    by_cases hrange : g < 2 ^ 64 ∧ a < 4 ∧ b < 4 ∧ c < 4 ∧ d < 4
    · rw [rawOperands, if_pos hrange]
      refine ⟨hwf.2 hrange, ?_⟩
      simp only [encode, BitVec.toNat_ofNat, Frame.command.injEq, List.cons.injEq, true_and, and_true]
      omega
    · rw [rawOperands, if_neg hrange]
      exact Bool.eq_false_iff.2 fun htrue => hrange (hwf.1 htrue)
  | [] | [_] | [_, _] | [_, _, _] | [_, _, _, _] | _ :: _ :: _ :: _ :: _ :: _ :: _ => rfl

/-- Whatever code and operands, the decoder answers the instruction of a well-formed command and an error else. -/
theorem decodeCommand_decodesAs (code : BitVec 5) (ops : List Nat) : DecodesAs code ops (decodeCommand code ops) := by
  have hcode {n : Nat} (hn : code.toNat = n) : code = BitVec.ofNat 5 n := by
    rw [← hn, BitVec.ofNat_toNat, BitVec.setWidth_eq]
  unfold decodeCommand
  split
  case h_4 hn => obtain rfl := hcode hn; exact ⟨rfl, rfl⟩
  case h_5 hn => obtain rfl := hcode hn; exact rawOperands_decodesAs ops
  case h_6 hn => obtain rfl := hcode hn; exact threeOperands_decodesAs rfl ops rfl fun _ _ _ => rfl
  case h_7 hn | h_8 hn => obtain rfl := hcode hn; exact twoOperands_decodesAs rfl ops rfl fun _ _ => rfl
  case h_17 hn => obtain rfl := hcode hn; exact oneOperand_decodesAs rfl ops rfl fun _ => rfl
  case h_20 =>
    have hunassigned : assignedCode code = false := by
      simp only [imp_false] at *
      rw [assignedCode, decide_eq_false_iff_not]
      omega
    simp [DecodesAs, Frame.wf, hunassigned]
  all_goals
    next hn => obtain rfl := hcode hn; exact noOperand_decodesAs rfl ops rfl rfl

/-- Every well-formed frame decodes to an instruction it is the frame of. -/
theorem decode_of_wf {frame : Frame} (hwf : frame.wf = true) : ∃ i, decode frame = .ok i ∧ encode i = frame := by
  cases frame with
  | group g lv => exact ⟨_, rfl, encode_decodeGroup g lv⟩
  | command code ops =>
    have hdecodes := decodeCommand_decodesAs code ops
    rw [decode]
    cases hd : decodeCommand code ops with
    | ok i =>
      rw [hd] at hdecodes
      exact ⟨i, rfl, hdecodes.2⟩
    | error e =>
      rw [hd] at hdecodes
      exact absurd hwf (Bool.eq_false_iff.1 hdecodes)

/-- A frame that is not well formed decodes to an error. -/
theorem decode_of_not_wf {frame : Frame} (hwf : frame.wf = false) : ∃ e, decode frame = .error e := by
  cases frame with
  | group g lv => cases hwf
  | command code ops =>
    have hdecodes := decodeCommand_decodesAs code ops
    rw [decode]
    cases hd : decodeCommand code ops with
    | ok i =>
      rw [hd] at hdecodes
      exact absurd hdecodes.1 (Bool.eq_false_iff.1 hwf)
    | error e => exact ⟨e, rfl⟩

/-- Settles O12: a group is packed again from its fields, a command from its code and operands. -/
theorem encodeOfDecode : Obligations.EncodeOfDecode := fun _ hwf => decode_of_wf hwf

/-- Settles O11: the fields of a format are read where the encoder puts them. -/
theorem decodeOfEncode : Obligations.DecodeOfEncode := by
  intro i
  cases hframe : encode i with
  | group g lv => rw [decode, decodeGroup_of_encode hframe]
  | command code ops =>
    cases i with
    | decodeRaw g lv =>
      simp only [encode, Frame.command.injEq] at hframe
      obtain ⟨rfl, rfl⟩ := hframe
      have hrange : g.toNat < 2 ^ 64 ∧ lv.a.toNat < 4 ∧ lv.b.toNat < 4 ∧ lv.c.toNat < 4 ∧ lv.d.toNat < 4 :=
        ⟨g.isLt, lv.a.isLt, lv.b.isLt, lv.c.isLt, lv.d.isLt⟩
      change rawOperands 4#5 [g.toNat, lv.a.toNat, lv.b.toNat, lv.c.toNat, lv.d.toNat] = _
      rw [rawOperands, if_pos hrange]
      simp
    | _ =>
      simp only [encode, Frame.command.injEq, reduceCtorEq] at hframe
      all_goals
        obtain ⟨rfl, rfl⟩ := hframe
        rfl

/-- Settles O8: the decoder has an error for such a frame, and the step refuses with it. -/
theorem illFormedFramesAreRefused : Obligations.IllFormedFramesAreRefused := by
  intro s frame rest hinbox hwf
  obtain ⟨e, he⟩ := decode_of_not_wf hwf
  refine ⟨e, he, ?_⟩
  simp only [step, hinbox, he]

end Sys2Proof.Claims

/-!
PROOFS. `write_segment` on one buffer (42_text_assembler): the confirmation counter (R237, R238) and the publication
(R240, R241), read off the working copy before and after.
-/

namespace Sys2Proof.Claims

open Sys2Proof.Machine

section Segment

variable (prog : Bool) (t : Level) (o : Nat) (c0 c1 : Byte) (i : Level) (b : TextBuffer)

theorem writeSegment_conf : (b.writeSegment prog t o c0 c1 i).conf =
    nextConf t i (b.regresses t o c0 i || (b.offer t o c0 i).regresses t (o + 1) c1 i) b.conf := by
  obtain ⟨_, rfl, ⟨_, h⟩ | ⟨_, h⟩⟩ := writeSegment_cases prog t o c0 c1 i b <;> rw [h]
  rfl

theorem writeSegment_efflen : (b.writeSegment prog t o c0 c1 i).efflen = b.efflen := by
  obtain ⟨_, _, ⟨_, h⟩ | ⟨_, h⟩⟩ := writeSegment_cases prog t o c0 c1 i b <;> rw [h] <;>
    exact (offer_efflen _ _ _ _ _).trans (offer_efflen _ _ _ _ _)

/-- The publication test is the one of R241. -/
theorem publishTest_iff : b.publishTest prog t = true ↔ prog = true ∨ FullPass t b := by
  simp [TextBuffer.publishTest, TextBuffer.allWithin, FullPass]

/-- A segment publishes its own working copy when the test holds, and keeps the published copy when it fails. -/
theorem writeSegment_published_cases :
    ((prog = true ∨ FullPass t (b.writeSegment prog t o c0 c1 i)) ∧
        (b.writeSegment prog t o c0 c1 i).pubChr = (b.writeSegment prog t o c0 c1 i).chr ∧
        (b.writeSegment prog t o c0 c1 i).pubErr = (b.writeSegment prog t o c0 c1 i).err) ∨
      (¬ (prog = true ∨ FullPass t (b.writeSegment prog t o c0 c1 i)) ∧
        (b.writeSegment prog t o c0 c1 i).pubChr = b.pubChr ∧ (b.writeSegment prog t o c0 c1 i).pubErr = b.pubErr) := by
  obtain ⟨_, _, ⟨htest, h⟩ | ⟨htest, h⟩⟩ := writeSegment_cases prog t o c0 c1 i b
  · rw [h]
    exact .inl ⟨(publishTest_iff prog t _).1 htest, rfl, rfl⟩
  · rw [h, ← publishTest_iff]
    exact .inr ⟨Bool.eq_false_iff.1 htest, (offer_pubChr _ _ _ _ _).trans (offer_pubChr _ _ _ _ _),
      (offer_pubErr _ _ _ _ _).trans (offer_pubErr _ _ _ _ _)⟩

end Segment

/-- An offer regresses exactly when it raises the count of its position (R237). -/
theorem regresses_iff {len : Nat} {b : TextBuffer} (hwf : b.wf len = true) (t : Level) (p : Nat) (c : Byte)
    (i : Level) : b.regresses t p c i = true ↔ b.errAt p < (b.offer t p c i).errAt p := by
  rcases offer_cases t p c i b with ⟨hyes, h⟩ | ⟨hno, h⟩ <;> rw [h]
  · simp [TextBuffer.regresses, hyes, memWrite_errAt_same hwf]
  · simp [TextBuffer.regresses, hno]

/-- A segment regresses when one of its two offers does: each position is touched by its own offer only. -/
theorem regresses_or_iff {len o : Nat} {b : TextBuffer} (hwf : b.wf len = true) (ho : o < len) (prog : Bool)
    (t : Level) (c0 c1 : Byte) (i : Level) :
    (b.regresses t o c0 i || (b.offer t o c0 i).regresses t (o + 1) c1 i) = true ↔
      Regressed o b (b.writeSegment prog t o c0 c1 i) := by
  have hafter0 := (sameAt_offers_writeSegment prog t o c0 c1 i b o).2
  have hafter1 := (sameAt_offers_writeSegment prog t o c0 c1 i b (o + 1)).2
  rw [Bool.or_eq_true, regresses_iff hwf, regresses_iff (offer_wf hwf ho), Regressed, hafter0, hafter1,
    offer_errAt_other t c1 i _ (show o ≠ o + 1 by omega), offer_errAt_other t c0 i b (show o + 1 ≠ o by omega)]

/-- `write_segment` inside a well-formed buffer does what R234 to R241 say. -/
theorem segmentWritten_writeSegment {len o : Nat} {b : TextBuffer} (hwf : b.wf len = true) (ho : o < len)
    (prog : Bool) (t : Level) (c0 c1 : Byte) (i : Level) :
    SegmentWritten prog t o c0 c1 i b (b.writeSegment prog t o c0 c1 i) := by
  have hregress := regresses_or_iff hwf ho prog t c0 c1 i
  have hconf := writeSegment_conf prog t o c0 c1 i b
  have hpub := writeSegment_published_cases prog t o c0 c1 i b
  refine ⟨positionWritten_writeSegment_first prog t c0 c1 i hwf,
    positionWritten_writeSegment_second prog t c0 c1 i hwf ho,
    fun _ h0 h1 => sameAt_writeSegment_of_ne prog t c0 c1 i h0 h1, writeSegment_efflen prog t o c0 c1 i b,
    fun hr => ?_, fun hr hi => ?_, fun hr hi => ?_, fun htest => ?_, fun htest => ?_⟩
  · rw [hconf, hregress.2 hr]
    rfl
  · rw [hconf, Bool.eq_false_iff.2 (mt hregress.1 hr), nextConf, if_neg Bool.false_ne_true, if_pos hi]
    rfl
  · rw [hconf, Bool.eq_false_iff.2 (mt hregress.1 hr), nextConf, if_neg Bool.false_ne_true,
      if_neg (BitVec.not_le.2 hi)]
  · obtain ⟨_, hchr, herr⟩ | ⟨hno, _⟩ := hpub
    · exact fun p => ⟨by rw [TextBuffer.pubChrAt, hchr, TextBuffer.chrAt], by
        rw [TextBuffer.pubErrAt, herr, TextBuffer.errAt]⟩
    · exact absurd htest hno
  · obtain ⟨hyes, _⟩ | ⟨_, hchr, herr⟩ := hpub
    · exact absurd hyes htest
    · exact fun p => ⟨by rw [TextBuffer.pubChrAt, hchr, TextBuffer.pubChrAt], by
        rw [TextBuffer.pubErrAt, herr, TextBuffer.pubErrAt]⟩

/-- Settles O40: counter and publication are those of the segment's last case. -/
theorem segmentCountsAndPublishes : Obligations.SegmentCountsAndPublishes := by
  intro len prog t o c0 c1 i b hwf ho
  exact segmentWritten_writeSegment hwf (by omega) prog t c0 c1 i

end Sys2Proof.Claims

/-!
PROOFS. What each group instruction answers, in one equation each: the registers and buffers it writes and the events it
adds (40_group_decoder R142, 41_field_decoders, 43_af_decoder, 44_clock_time). The results, the events and the
whole-machine rules read these equations and do not unfold a field decoder again.
-/

namespace Sys2Proof.Claims

open Sys2Proof.Machine

/-! ### Events -/

/-- The state with events appended to the command's list. -/
def addEvents (es : List Event) (s : State) : State :=
  { s with out := { s.out with events := s.out.events ++ es } }

theorem addEvents_nil (s : State) : addEvents [] s = s := by
  simp [addEvents]

theorem emitWhen_eq_addEvents (c : Bool) (e : Event) (s : State) :
    s.emitWhen c e = addEvents (if c && s.listen.get e.kind then [e] else []) s := rfl

/-- The event of a register's step is its event on change. -/
theorem ite_bne_eq_changeEvent {α : Type} [DecidableEq α] (listened : Bool) (old : Option α) (new : α) (e : Event) :
    (if old != some new && listened then [e] else []) = changeEvent listened old new e := by
  by_cases hl : listened = true <;> by_cases hc : old = some new <;> simp [changeEvent, hl, hc]

theorem not_samePublished (len : Nat) (b b' : TextBuffer) :
    (!samePublished len b b') = publishedDiffers len b b' := by
  simp [samePublished, publishedDiffers, List.not_all_eq_any_not, bne]

theorem textEvent_self (listened : Bool) (len : Nat) (b : TextBuffer) (e : Event) :
    textEvent listened len b b e = [] := by
  simp [textEvent, publishedDiffers]

/-! ### The scalar steps -/

theorem taStep_eq (b : Bool) (s : State) :
    taStep b s = addEvents (changeEvent s.listen.ta s.ta b (.ta b)) { s with ta := some b } := by
  rw [← ite_bne_eq_changeEvent]
  rfl

theorem msStep_eq (b : Bool) (s : State) :
    msStep b s = addEvents (changeEvent s.listen.ms s.ms b (.ms b)) { s with ms := some b } := by
  rw [← ite_bne_eq_changeEvent]
  rfl

theorem eccStep_eq (e : Byte) (s : State) :
    eccStep e s = addEvents (changeEvent s.listen.ecc s.ecc e (.ecc e)) { s with ecc := some e } := by
  rw [← ite_bne_eq_changeEvent]
  rfl

/-- The event of the COUNTRY step (R211). -/
def countryEvent (listened : Bool) (old new : Option CountryId) : List Event :=
  if listened = true ∧ old ≠ new then [.country new] else []

theorem countryStep_eq (s : State) :
    countryStep s = addEvents (countryEvent s.listen.country s.country (lookupCountry s))
      { s with country := lookupCountry s } := by
  rw [countryStep, emitWhen_eq_addEvents]
  by_cases hl : s.listen.country = true <;> by_cases hc : s.country = lookupCountry s <;>
    simp [countryEvent, Event.kind, Listeners.get, hl, hc]

/-- The common part of a command: three registers, a fresh result with the common events (R142). -/
theorem commonPart_begin_eq (h : Head) (s : State) :
    commonPart h s.begin = { s with
      pi := some h.pi, tp := some h.tp, pty := some h.pty
      out := { ok := true, value := .nothing, events := commonEvents h s } } := by
  simp only [commonEvents, ← ite_bne_eq_changeEvent]
  rfl

/-! ### The AF codes -/

/-- AFSET after `af_add` of one code (R273). -/
def afSetAfter (n : Byte) (set : BitVec 204) : BitVec 204 :=
  if isFrequencyCode n = true ∧ afMember set n = false then afInsert set n else set

theorem afEvent_eq (listened known : Bool) (n : Byte) :
    afEvent listened known n =
      if listened = true ∧ isFrequencyCode n = true ∧ known = false then [.af (freqKhz n)] else [] := by
  simp only [afEvent, isFrequencyCode_iff, and_assoc]
  rfl

theorem afAdd_eq (n : Byte) (s : State) :
    afAdd n s = addEvents (afEvent s.listen.af (afMember s.afset n) n)
      { s with afset := afSetAfter n s.afset } := by
  rw [afEvent_eq]
  obtain ⟨hcode, hold, h⟩ | ⟨hno, h⟩ := afAdd_cases n s <;> rw [h]
  · rw [emit_eq, emitWhen_eq_addEvents]
    simp [afSetAfter, Event.kind, Listeners.get, hcode, hold]
  · have hnew : ¬ (isFrequencyCode n = true ∧ afMember s.afset n = false) := by
      rintro ⟨hcode, hold⟩
      simp [hcode, hold] at hno
    rw [afSetAfter, if_neg hnew, if_neg (fun hand => hnew hand.2), addEvents_nil]

theorem afMember_afSetAfter (m : Byte) (set : BitVec 204) (n : Byte) :
    afMember (afSetAfter m set) n = true ↔ afMember set n = true ∨ (isFrequencyCode n = true ∧ n = m) := by
  unfold afSetAfter
  split
  next hnew =>
    rw [afMember_afInsert hnew.1]
    refine or_congr_right ⟨?_, And.right⟩
    rintro rfl
    exact ⟨hnew.1, rfl⟩
  next hno =>
    refine ⟨.inl, ?_⟩
    rintro (hmem | ⟨hcode, rfl⟩)
    · exact hmem
    · simpa [hcode] using hno

/-- After a first code a second one is known if it was, or if it is the same. -/
theorem afEvent_afSetAfter (listened : Bool) (m : Byte) (set : BitVec 204) (n : Byte) :
    afEvent listened (afMember (afSetAfter m set) n) n = afEvent listened (afMember set n || n == m) n := by
  have hmem := afMember_afSetAfter m set n
  rw [afEvent_eq, afEvent_eq]
  refine if_congr (and_congr_right fun _ => and_congr_right fun hcode => ?_) rfl rfl
  rw [Bool.eq_false_iff, Bool.eq_false_iff, Ne, Ne, hmem]
  simp [hcode]

/-! ### The text groups -/

/-- A text group adds the text event of its buffer to what its writes leave. -/
theorem textGroup_of_le {id : BufId} {beB : Level} {s : State} (hgate : beB ≤ s.thr.get id.kind .info)
    (writes : State → State) (hlisten : (writes s).listen = s.listen) :
    textGroup id beB writes s =
      addEvents (textEvent (s.listen.get id.event.kind) id.len (s.buf id) ((writes s).buf id) id.event) (writes s) := by
  rw [textGroup, if_neg (BitVec.not_lt.2 hgate), emitWhen_eq_addEvents, not_samePublished, hlisten]
  congr 1
  rw [textEvent]
  exact if_congr (by rw [Bool.and_eq_true, and_comm]) rfl rfl

theorem textGroup_of_lt {id : BufId} {beB : Level} {s : State} (hgate : s.thr.get id.kind .info < beB)
    (writes : State → State) : textGroup id beB writes s = s := if_pos hgate

/-- PS after the segment of a group 0 (R231, R193). -/
def psAfter (lv : Levels) (addr : BitVec 2) (c0 c1 : Byte) (s : State) : TextBuffer :=
  if s.thr.psInfo < lv.b then s.ps
  else s.ps.writeSegment s.prog.ps s.thr.psData (2 * addr.toNat) c0 c1 lv.d

theorem psSegment_eq (lv : Levels) (addr : BitVec 2) (c0 c1 : Byte) (s : State) :
    psSegment lv addr c0 c1 s = addEvents (textEvent s.listen.ps 8 s.ps (psAfter lv addr c0 c1 s) .ps)
      { s with ps := psAfter lv addr c0 c1 s } := by
  by_cases hgate : s.thr.psInfo < lv.b
  · rw [psSegment, textGroup_of_lt hgate, psAfter, if_pos hgate, textEvent_self, addEvents_nil]
  · rw [psSegment, textGroup_of_le (BitVec.not_lt.1 hgate) _ (writeSegment_listen _ _ _ _ _ _), psAfter,
      if_neg hgate]
    rfl

/-- PTYN after a group 10A (R231, R215). -/
def ptynAfter (lv : Levels) (f : Group10A) (s : State) : TextBuffer :=
  if s.thr.psInfo < lv.b then s.ptyn
  else (s.ptyn.writeSegment s.prog.ps s.thr.psData (4 * f.addr.toNat) f.c0 f.c1 lv.c).writeSegment s.prog.ps
    s.thr.psData (4 * f.addr.toNat + 2) f.c2 f.c3 lv.d

theorem group10A_eq (lv : Levels) (f : Group10A) (s : State) :
    group10A lv f s = addEvents (textEvent s.listen.ptyn 8 s.ptyn (ptynAfter lv f s) .ptyn)
      { s with ptyn := ptynAfter lv f s } := by
  by_cases hgate : s.thr.psInfo < lv.b
  · rw [group10A, textGroup_of_lt hgate, ptynAfter, if_pos hgate, textEvent_self, addEvents_nil]
  · rw [group10A, textGroup_of_le (BitVec.not_lt.1 hgate) _ rfl, ptynAfter, if_neg hgate]
    rfl

/-! ### RadioText -/

/-- The state with the flag active and its buffer replaced. -/
def withRt (f : Bool) (b : TextBuffer) (s : State) : State := ({ s with rtActive := some f }).setBuf (.rt f) b

/-- The toggle step and the effective length, in one. -/
theorem rtPrepared_eq (f : Bool) (n : Nat) (s : State) : rtPrepared f n s = withRt f (toggled f n s) s := by
  obtain ⟨hact, h⟩ | ⟨hact, h⟩ := rtSelect_cases f s
  · have hsame : { s with rtActive := some f } = s := by rw [← hact]
    rw [rtPrepared, setEfflen, h, toggled, if_pos hact, withRt, hsame]
  · rw [rtPrepared, setEfflen, h, toggled, if_neg hact, withRt]
    cases f <;> rfl

theorem writeSegment_withRt (f : Bool) (o : Nat) (c0 c1 : Byte) (i : Level) (b : TextBuffer) (s : State) :
    writeSegment (.rt f) o c0 c1 i (withRt f b s) =
      withRt f (b.writeSegment s.prog.rt s.thr.rtData o c0 c1 i) s := by
  cases f <;> rfl

/-- The RT buffer of a group 2A after its writes (R201). -/
def rtAfter2A (lv : Levels) (f : Group2A) (s : State) : TextBuffer :=
  ((toggled f.f 64 s).writeSegment s.prog.rt s.thr.rtData (4 * f.addr.toNat) f.c0 f.c1 lv.c).writeSegment s.prog.rt
    s.thr.rtData (4 * f.addr.toNat + 2) f.c2 f.c3 lv.d

theorem writes2A_eq (lv : Levels) (f : Group2A) (s : State) : writes2A lv f s = withRt f.f (rtAfter2A lv f s) s := by
  have hprepared := rtPrepared_eq f.f Config.rtLen s
  rw [rtPrepared] at hprepared
  rw [writes2A, hprepared, writeSegment_withRt, writeSegment_withRt]
  rfl

/-- The RT buffer of a group 2B after its writes (R203). -/
def rtAfter2B (lv : Levels) (f : Group2B) (s : State) : TextBuffer :=
  (toggled f.f 32 s).writeSegment s.prog.rt s.thr.rtData (2 * f.addr.toNat) f.c0 f.c1 lv.d

theorem writes2B_eq (lv : Levels) (f : Group2B) (s : State) : writes2B lv f s = withRt f.f (rtAfter2B lv f s) s := by
  have hprepared := rtPrepared_eq f.f Config.efflen2B s
  rw [rtPrepared] at hprepared
  rw [writes2B, hprepared, writeSegment_withRt]
  rfl

@[simp] theorem withRt_buf_same (f : Bool) (b : TextBuffer) (s : State) : (withRt f b s).buf (.rt f) = b :=
  setBuf_buf_same _ _ _

/-- What a group 2A or 2B leaves below the INFO gate: the buffer `b` of the flag `f`, reported on change (R232). -/
def rtWritten (f : Bool) (b : TextBuffer) (s : State) : State :=
  addEvents (textEvent s.listen.rt 64 (s.buf (.rt f)) b (.rt f)) (withRt f b s)

theorem textGroup_withRt {f : Bool} {beB : Level} {s : State} (hgate : beB ≤ s.thr.rtInfo) {writes : State → State}
    {b : TextBuffer} (hwrites : writes s = withRt f b s) : textGroup (.rt f) beB writes s = rtWritten f b s := by
  have hlisten : (writes s).listen = s.listen := by rw [hwrites, withRt, setBuf_listen]
  rw [textGroup_of_le (id := .rt f) hgate writes hlisten, hwrites, withRt_buf_same]
  rfl

/-! ### The field decoders -/

theorem addEvents_addEvents (es es' : List Event) (s : State) :
    addEvents es' (addEvents es s) = addEvents (es ++ es') s := by
  simp [addEvents]

theorem group0A_eq (lv : Levels) (f : Group0A) (s : State) :
    group0A lv f s = addEvents
      (changeEvent s.listen.ta s.ta f.ta (.ta f.ta) ++ changeEvent s.listen.ms s.ms f.ms (.ms f.ms) ++
        afEvent s.listen.af (afMember s.afset f.af1) f.af1 ++
        afEvent s.listen.af (afMember s.afset f.af2 || f.af2 == f.af1) f.af2 ++
        textEvent s.listen.ps 8 s.ps (psAfter lv f.addr f.c0 f.c1 s) .ps)
      { s with
        ta := some f.ta, ms := some f.ms, afset := afSetAfter f.af2 (afSetAfter f.af1 s.afset)
        ps := psAfter lv f.addr f.c0 f.c1 s } := by
  rw [← afEvent_afSetAfter, ← addEvents_addEvents, ← addEvents_addEvents, ← addEvents_addEvents, ← addEvents_addEvents,
    group0A, psSegment_eq, afAdd_eq, afAdd_eq, msStep_eq, taStep_eq]
  rfl

theorem group0B_eq (lv : Levels) (f : Group0B) (s : State) :
    group0B lv f s = addEvents
      (changeEvent s.listen.ta s.ta f.ta (.ta f.ta) ++ changeEvent s.listen.ms s.ms f.ms (.ms f.ms) ++
        textEvent s.listen.ps 8 s.ps (psAfter lv f.addr f.c0 f.c1 s) .ps)
      { s with ta := some f.ta, ms := some f.ms, ps := psAfter lv f.addr f.c0 f.c1 s } := by
  rw [← addEvents_addEvents, ← addEvents_addEvents, group0B, psSegment_eq, msStep_eq, taStep_eq]
  rfl

/-- The country a group 1A with variant 0 resolves (R211). -/
def countryAfter (f : Group1A) (s : State) : Option CountryId := lookupCountry { s with ecc := some f.ecc }

theorem group1A_of_variant_zero {f : Group1A} (hvariant : f.variant = 0#3) (s : State) :
    group1A f s = addEvents
      (changeEvent s.listen.ecc s.ecc f.ecc (.ecc f.ecc) ++
        countryEvent s.listen.country s.country (countryAfter f s))
      { s with ecc := some f.ecc, country := countryAfter f s } := by
  rw [← addEvents_addEvents, group1A, if_pos hvariant, countryStep_eq, eccStep_eq]
  rfl

theorem group1A_of_variant_ne_zero {f : Group1A} (hvariant : f.variant ≠ 0#3) (s : State) : group1A f s = s :=
  if_neg hvariant

theorem group2A_of_le {lv : Levels} {s : State} (hgate : lv.b ≤ s.thr.rtInfo) (f : Group2A) :
    group2A lv f s = rtWritten f.f (rtAfter2A lv f s) s := textGroup_withRt hgate (writes2A_eq lv f s)

theorem group2A_of_lt {lv : Levels} {s : State} (hgate : s.thr.rtInfo < lv.b) (f : Group2A) : group2A lv f s = s :=
  textGroup_of_lt (id := .rt f.f) hgate _

theorem group2B_of_le {lv : Levels} {s : State} (hgate : lv.b ≤ s.thr.rtInfo) (f : Group2B) :
    group2B lv f s = rtWritten f.f (rtAfter2B lv f s) s := textGroup_withRt hgate (writes2B_eq lv f s)

theorem group2B_of_lt {lv : Levels} {s : State} (hgate : s.thr.rtInfo < lv.b) (f : Group2B) : group2B lv f s = s :=
  textGroup_of_lt (id := .rt f.f) hgate _

/-- All a group 2A or 2B can do to a state, for rules that do not look into the buffer. -/
def RtIntake (s t : State) : Prop := t = s ∨ ∃ f b, t = rtWritten f b s

theorem rtIntake_group2A (lv : Levels) (f : Group2A) (s : State) : RtIntake s (group2A lv f s) := by
  by_cases hgate : s.thr.rtInfo < lv.b
  · exact .inl (group2A_of_lt hgate f)
  · exact .inr ⟨_, _, group2A_of_le (BitVec.not_lt.1 hgate) f⟩

theorem rtIntake_group2B (lv : Levels) (f : Group2B) (s : State) : RtIntake s (group2B lv f s) := by
  by_cases hgate : s.thr.rtInfo < lv.b
  · exact .inl (group2B_of_lt hgate f)
  · exact .inr ⟨_, _, group2B_of_le (BitVec.not_lt.1 hgate) f⟩

theorem group4A_of_valid {f : Group4A} (hvalid : clockFieldsValid f = true) (s : State) :
    group4A f s = addEvents (if s.listen.ct = true then [.ct (snapshot f)] else [])
      { s with ct := some (snapshot f) } := by
  rw [group4A, if_pos hvalid]
  rfl

end Sys2Proof.Claims

/-!
PROOFS. The results of the recognised groups (41_field_decoders, 43_af_decoder, 44_clock_time) and the events of the
others: each statement is read off the one equation of its instruction.
-/

namespace Sys2Proof.Claims

open Sys2Proof.Machine

/-- Settles O25: the 25 instructions are the common part alone. -/
theorem commonEventsInOrder : Obligations.CommonEventsInOrder := by
  intro lv h r s i hlive hi
  refine ⟨commonPart h s.begin, (exec_of_mem_commonOnly hi s).trans (decodeWith_live h id hlive), ?_⟩
  rw [commonPart_begin_eq]

/-! ### Groups 0A and 0B -/

theorem exec_g0A_of_live {s : State} (hlive : s.life = .live) (lv : Levels) (h : Head) (f : Group0A) :
    exec (.g0A lv h f) s = .next { s with
      pi := some h.pi, tp := some h.tp, pty := some h.pty, ta := some f.ta, ms := some f.ms
      afset := afSetAfter f.af2 (afSetAfter f.af1 s.afset), ps := psAfter lv f.addr f.c0 f.c1 s
      out := { ok := true, value := .nothing, events := commonEvents h s ++
        (changeEvent s.listen.ta s.ta f.ta (.ta f.ta) ++ changeEvent s.listen.ms s.ms f.ms (.ms f.ms) ++
          afEvent s.listen.af (afMember s.afset f.af1) f.af1 ++
          afEvent s.listen.af (afMember s.afset f.af2 || f.af2 == f.af1) f.af2 ++
          textEvent s.listen.ps 8 s.ps (psAfter lv f.addr f.c0 f.c1 s) .ps) } } := by
  rw [exec, execG0A, decodeWith_live h _ hlive, group0A_eq, commonPart_begin_eq]
  rfl

theorem exec_g0B_of_live {s : State} (hlive : s.life = .live) (lv : Levels) (h : Head) (f : Group0B) :
    exec (.g0B lv h f) s = .next { s with
      pi := some h.pi, tp := some h.tp, pty := some h.pty, ta := some f.ta, ms := some f.ms
      ps := psAfter lv f.addr f.c0 f.c1 s
      out := { ok := true, value := .nothing, events := commonEvents h s ++
        (changeEvent s.listen.ta s.ta f.ta (.ta f.ta) ++ changeEvent s.listen.ms s.ms f.ms (.ms f.ms) ++
          textEvent s.listen.ps 8 s.ps (psAfter lv f.addr f.c0 f.c1 s) .ps) } } := by
  rw [exec, execG0B, decodeWith_live h _ hlive, group0B_eq, commonPart_begin_eq]
  rfl

/-- The PS part of a group 0 is gated and written as R231 and R193 say. -/
theorem psOffered_of_ps_eq {s t : State} (hwf : s.wf = true) {lv : Levels} {addr : BitVec 2} {c0 c1 : Byte}
    (hps : t.ps = psAfter lv addr c0 c1 s) : PsOffered lv addr c0 c1 s t := by
  refine ⟨fun hgate => ?_, fun hgate => ?_⟩
  · rw [hps, psAfter, if_pos hgate]
  · have ho : 2 * addr.toNat < BufId.ps.len := by
      change 2 * addr.toNat < 8
      omega
    rw [hps, psAfter, if_neg (BitVec.not_lt.2 hgate)]
    exact segmentWritten_writeSegment (wf_buf hwf .ps) ho _ _ _ _ _

/-- Settles O27: AFSET gains the frequency codes among the two, the segment is written below the gate. -/
theorem group0AResult : Obligations.Group0AResult := by
  intro lv h f s hlive hwf
  refine ⟨_, exec_g0A_of_live hlive lv h f, ⟨rfl, rfl, rfl, rfl, rfl⟩, rfl, rfl, fun n => ?_,
    psOffered_of_ps_eq hwf rfl, rfl⟩
  rw [afMember_afSetAfter, afMember_afSetAfter, isFrequencyCode_iff, or_assoc, ← and_or_left, and_assoc]

/-- Settles O28: as 0A, without the AF codes. -/
theorem group0BResult : Obligations.Group0BResult := by
  intro lv h f s hlive hwf
  exact ⟨_, exec_g0B_of_live hlive lv h f, ⟨rfl, rfl, rfl, rfl, rfl⟩, rfl, rfl, psOffered_of_ps_eq hwf rfl, rfl⟩

/-- Settles O29: each step appends its own events. -/
theorem groupZeroEventsInOrder : Obligations.GroupZeroEventsInOrder := by
  refine ⟨fun lv h f s hlive => ⟨_, exec_g0A_of_live hlive lv h f, ?_⟩,
    fun lv h f s hlive => ⟨_, exec_g0B_of_live hlive lv h f, ?_⟩⟩ <;>
    simp only [List.append_assoc]

/-! ### Group 1A -/

/-- Settles O32: the country is looked up with the PI and the ECC the same group has just written. -/
theorem group1AResult : Obligations.Group1AResult := by
  intro lv h f s hlive
  have hexec : exec (.g1A lv h f) s = .next (group1A f (commonPart h s.begin)) := decodeWith_live h _ hlive
  rw [commonPart_begin_eq] at hexec
  by_cases hvariant : f.variant = 0#3
  · rw [group1A_of_variant_zero hvariant] at hexec
    refine ⟨_, hexec, ⟨rfl, rfl, rfl, rfl, rfl⟩, fun _ => ⟨rfl, rfl, ?_, rfl⟩, fun hne => absurd hvariant hne⟩
    exact (List.append_assoc _ _ _).symm
  · rw [group1A_of_variant_ne_zero hvariant] at hexec
    exact ⟨_, hexec, ⟨rfl, rfl, rfl, rfl, rfl⟩, fun heq => absurd heq hvariant, fun _ => ⟨rfl, rfl⟩⟩

/-! ### Groups 2A and 2B -/

/-- What a group 2A or 2B answers below the INFO gate: the common part, the flag active, its buffer `b`. -/
def rtAnswer (h : Head) (f : Bool) (b : TextBuffer) (s : State) : State :=
  { withRt f b s with
    pi := some h.pi, tp := some h.tp, pty := some h.pty
    out := { ok := true, value := .nothing, events := commonEvents h s ++
      textEvent s.listen.rt 64 (s.buf (.rt f)) b (.rt f) } }

@[simp] theorem rtAnswer_rtActive (h : Head) (f : Bool) (b : TextBuffer) (s : State) :
    (rtAnswer h f b s).rtActive = some f := by
  cases f <;> rfl

@[simp] theorem rtAnswer_buf_same (h : Head) (f : Bool) (b : TextBuffer) (s : State) :
    (rtAnswer h f b s).buf (.rt f) = b := by
  cases f <;> rfl

theorem rtAnswer_buf_not (h : Head) (f : Bool) (b : TextBuffer) (s : State) :
    (rtAnswer h f b s).buf (.rt !f) = s.buf (.rt !f) := by
  cases f <;> rfl

theorem rtAnswer_eq_commonFrom (h : Head) (f : Bool) (b : TextBuffer) (s : State) :
    rtAnswer h f b s = { commonFrom (rtAnswer h f b s) s with
      rtActive := (rtAnswer h f b s).rtActive, rt0 := (rtAnswer h f b s).rt0, rt1 := (rtAnswer h f b s).rt1 } := by
  cases f <;> rfl

theorem decoded_rtAnswer (h : Head) (f : Bool) (b : TextBuffer) (s : State) : Decoded h (rtAnswer h f b s) :=
  ⟨rfl, rfl, rfl, rfl, rfl⟩

/-- A text part written after the common part of a command. -/
theorem rtWritten_commonPart_begin (h : Head) (f : Bool) (b : TextBuffer) (s : State) :
    rtWritten f b (commonPart h s.begin) = rtAnswer h f b s := by
  rw [commonPart_begin_eq]
  cases f <;> rfl

theorem exec_g2A_of_le {s : State} (hlive : s.life = .live) {lv : Levels} (hgate : lv.b ≤ s.thr.rtInfo) (h : Head)
    (f : Group2A) : exec (.g2A lv h f) s = .next (rtAnswer h f.f (rtAfter2A lv f s) s) := by
  rw [exec, execG2A, decodeWith_live h _ hlive, group2A_of_le (s := commonPart h s.begin) hgate,
    rtWritten_commonPart_begin]
  rfl

theorem exec_g2B_of_le {s : State} (hlive : s.life = .live) {lv : Levels} (hgate : lv.b ≤ s.thr.rtInfo) (h : Head)
    (f : Group2B) : exec (.g2B lv h f) s = .next (rtAnswer h f.f (rtAfter2B lv f s) s) := by
  rw [exec, execG2B, decodeWith_live h _ hlive, group2B_of_le (s := commonPart h s.begin) hgate,
    rtWritten_commonPart_begin]
  rfl

theorem wf_toggled {s : State} (hwf : BuffersWf s) (f : Bool) (n : Nat) : (toggled f n s).wf 64 = true := by
  refine efflen_wf ?_
  split
  · exact hwf (.rt f)
  · exact blank_wf 64

/-- Settles O33: the gate decides between the common part alone and two segments in the toggled buffer. -/
theorem group2AResult : Obligations.Group2AResult := by
  intro lv h f s hlive hwf
  by_cases hgate : s.thr.rtInfo < lv.b
  · have hexec : exec (.g2A lv h f) s = .next (commonPart h s.begin) := by
      rw [exec, execG2A, decodeWith_live h _ hlive, group2A_of_lt (s := commonPart h s.begin) hgate]
    rw [commonPart_begin_eq] at hexec
    exact ⟨_, hexec, ⟨rfl, rfl, rfl, rfl, rfl⟩, fun _ => ⟨rfl, rfl⟩, fun hle => absurd hgate (BitVec.not_lt.2 hle)⟩
  · have htoggled := wf_toggled (wf_buf hwf) f.f 64
    have haddr : 4 * f.addr.toNat + 2 < 64 := by omega
    refine ⟨_, exec_g2A_of_le hlive (BitVec.not_lt.1 hgate) h f, decoded_rtAnswer _ _ _ _,
      fun hlt => absurd hlt hgate, fun _ => ⟨rtAnswer_rtActive _ _ _ _,
        ⟨_, segmentWritten_writeSegment htoggled (by omega) _ _ _ _ _, ?_⟩, rtAnswer_buf_not _ _ _ _, ?_,
        rtAnswer_eq_commonFrom _ _ _ _⟩⟩
    · rw [rtAnswer_buf_same]
      exact segmentWritten_writeSegment (textBuffer_writeSegment_wf htoggled (by omega)) haddr _ _ _ _ _
    · rw [rtAnswer_buf_same]
      rfl

/-- Settles O34: as 2A, with one segment. -/
theorem group2BResult : Obligations.Group2BResult := by
  intro lv h f s hlive hwf
  by_cases hgate : s.thr.rtInfo < lv.b
  · have hexec : exec (.g2B lv h f) s = .next (commonPart h s.begin) := by
      rw [exec, execG2B, decodeWith_live h _ hlive, group2B_of_lt (s := commonPart h s.begin) hgate]
    rw [commonPart_begin_eq] at hexec
    exact ⟨_, hexec, ⟨rfl, rfl, rfl, rfl, rfl⟩, fun _ => ⟨rfl, rfl⟩, fun hle => absurd hgate (BitVec.not_lt.2 hle)⟩
  · refine ⟨_, exec_g2B_of_le hlive (BitVec.not_lt.1 hgate) h f, decoded_rtAnswer _ _ _ _,
      fun hlt => absurd hlt hgate, fun _ => ⟨rtAnswer_rtActive _ _ _ _, ?_, rtAnswer_buf_not _ _ _ _, ?_,
        rtAnswer_eq_commonFrom _ _ _ _⟩⟩
    · rw [rtAnswer_buf_same]
      exact segmentWritten_writeSegment (wf_toggled (wf_buf hwf) f.f 32) (by omega) _ _ _ _ _
    · rw [rtAnswer_buf_same]
      rfl

/-! ### Group 10A -/

theorem exec_g10A_of_live {s : State} (hlive : s.life = .live) (lv : Levels) (h : Head) (f : Group10A) :
    exec (.g10A lv h f) s = .next { s with
      pi := some h.pi, tp := some h.tp, pty := some h.pty, ptyn := ptynAfter lv f s
      out := { ok := true, value := .nothing, events := commonEvents h s ++
        textEvent s.listen.ptyn 8 s.ptyn (ptynAfter lv f s) .ptyn } } := by
  rw [exec, execG10A, decodeWith_live h _ hlive, group10A_eq, commonPart_begin_eq]
  rfl

/-- Settles O35: the gate is that of kind PS, and both segments are written with its settings. -/
theorem group10AResult : Obligations.Group10AResult := by
  intro lv h f s hlive hwf
  have hptyn : s.ptyn.wf 8 = true := wf_buf hwf .ptyn
  have haddr : 4 * f.addr.toNat + 2 < 8 := by omega
  refine ⟨_, exec_g10A_of_live hlive lv h f, ⟨rfl, rfl, rfl, rfl, rfl⟩, fun hgate => if_pos hgate, fun hgate => ?_,
    rfl, rfl⟩
  refine ⟨_, segmentWritten_writeSegment hptyn (by omega) _ _ _ _ _, ?_⟩
  rw [ptynAfter, if_neg (BitVec.not_lt.2 hgate)]
  exact segmentWritten_writeSegment (textBuffer_writeSegment_wf hptyn (by omega)) haddr _ _ _ _ _

/-! ### Group 4A -/

/-- The offset is the magnitude with the sign of the group (R296). -/
theorem offsetHh_eq (osign : Bool) (omag : BitVec 5) :
    offsetHh osign omag = (if osign then -1 else 1) * (omag.toNat : Int) := by
  cases osign <;> simp [offsetHh]

/-- Settles O36: the snapshot is written and reported whether it changed or not. -/
theorem validClockGroupWritesTheSnapshot : Obligations.ValidClockGroupWritesTheSnapshot := by
  intro lv h f s hlive hhour hminute
  have hvalid : clockFieldsValid f = true := by simp [clockFieldsValid, hhour, hminute]
  have hexec : exec (.g4A lv h f) s = .next (group4A f (commonPart h s.begin)) := decodeWith_live h _ hlive
  rw [group4A_of_valid hvalid, commonPart_begin_eq] at hexec
  exact ⟨_, snapshot f, hexec, ⟨rfl, rfl, rfl, rfl, rfl⟩, rfl, rfl, rfl, rfl, offsetHh_eq _ _, rfl, rfl⟩

end Sys2Proof.Claims

/-!
PROOFS. What an instruction can do, said once: which answers there are and by which instruction (60_exceptions R360 to
R367), that a group instruction is a decode of its word (40_group_decoder R142, R148), and the text form (R140).
-/

namespace Sys2Proof.Claims

open Sys2Proof.Machine

/-! ### Live and destroyed -/

/-- Every instruction but CREATE tests LIFE first (R320, R366). -/
theorem exec_eq_whenLive {i : Instr} (hcreate : i ≠ .create) : ∃ body, ∀ s, exec i s = whenLive s body := by
  cases i with
  | create => exact absurd rfl hcreate
  | _ => exact ⟨_, fun _ => rfl⟩

/-- Settles O4: the test comes first, and CREATE alone has none. -/
theorem destroyedRefusesAllButCreate : Obligations.DestroyedRefusesAllButCreate := by
  intro i s hdestroyed hcreate
  obtain ⟨body, hexec⟩ := exec_eq_whenLive hcreate
  rw [hexec, whenLive_destroyed body hdestroyed]

/-- While LIFE is LIVE every instruction answers. -/
theorem exec_of_live (i : Instr) {s : State} (hlive : s.life = .live) : ∃ t, exec i s = .next t := by
  by_cases hcreate : i = .create
  · rw [hcreate]
    exact ⟨_, rfl⟩
  · obtain ⟨body, hexec⟩ := exec_eq_whenLive hcreate
    exact ⟨_, (hexec s).trans (whenLive_live body hlive)⟩

/-- Settles O9: a well-formed frame decodes, and what it decodes to answers while LIFE is LIVE. -/
theorem liveInstanceAnswersEveryCommand : Obligations.LiveInstanceAnswersEveryCommand := by
  intro s hready
  unfold State.ready at hready
  split at hready
  next frame rest hlive hinbox =>
    obtain ⟨i, hdecode, _⟩ := decode_of_wf hready
    obtain ⟨t, ht⟩ := exec_of_live i (s := { s with inbox := rest }) hlive
    refine ⟨t, ?_⟩
    simp only [step, hinbox, hdecode]
    exact ht
  next => cases hready

/-- An instruction other than CREATE that answers has found LIFE to be LIVE. -/
theorem live_of_exec_next {i : Instr} {s t : State} (hcreate : i ≠ .create) (hnext : exec i s = .next t) :
    s.life = .live := by
  obtain ⟨body, hexec⟩ := exec_eq_whenLive hcreate
  rw [hexec] at hnext
  exact (whenLive_next hnext).1

/-! ### A group instruction is a decode of its word -/

/-- The instruction a group is runs as DECODE_RAW of the group. -/
theorem exec_decodeGroup (g : Group) (lv : Levels) (s : State) :
    exec (decodeGroup g lv) s = exec (.decodeRaw g lv) s := by
  have hlt : (opcode g).toNat < 32 := (opcode g).isLt
  change exec (decodeGroup g lv) s = whenLive s fun s => dispatchGroup g lv (commonPart (headOf g) s.begin)
  unfold decodeGroup dispatchGroup
  generalize (opcode g).toNat = code at hlt
  interval_cases code <;> rfl

/-- Settles O21: both answer the same next state. -/
theorem decodeRawRunsTheGroupInstruction : Obligations.DecodeRawRunsTheGroupInstruction := by
  intro g lv s hlive
  obtain ⟨t, ht⟩ := exec_of_live (.decodeRaw g lv) hlive
  exact ⟨t, ht, (exec_decodeGroup g lv s).trans ht⟩

/-- An instruction whose frame is a group answers as a decode of it. -/
theorem exec_of_encode_group {i : Instr} {g : Group} {lv : Levels} (henc : encode i = .group g lv) (s : State) :
    exec i s = exec (.decodeRaw g lv) s := by
  rw [← decodeGroup_of_encode henc, exec_decodeGroup]

/-! ### The answers -/

/-- DECODE_HEX of a group's string is DECODE_RAW of the group at levels 0 (R140). -/
theorem exec_decodeHex_of_parseHex {chars : List Nat} {g : Group} (hparse : parseHex chars = some g) (s : State) :
    exec (.decodeHex chars) s = exec (.decodeRaw g Levels.zero) s := by
  simp only [exec, execDecodeHex, execDecodeRaw, hparse]

/-- The state CLEAR leaves (R323). -/
def cleared (s : State) : State :=
  { s with
    pi := none, pty := none, tp := none, ta := none, ms := none, ecc := none, country := none
    rtActive := none, afset := 0#204, ct := none
    ps := TextBuffer.blank 8, rt0 := TextBuffer.blank 64, rt1 := TextBuffer.blank 64, ptyn := TextBuffer.blank 8
    out := Result.okay }

theorem exec_clear_of_live {s : State} (hlive : s.life = .live) : exec .clear s = .next (cleared s) := by
  rw [exec, execClear, whenLive_live _ hlive]
  rfl

/-- The commands that can be rejected (R361, R362). -/
inductive Rejectable : Instr → Prop
  | decodeHex (chars : List Nat) : Rejectable (.decodeHex chars)
  | setCorrection (kind axis level : Nat) : Rejectable (.setCorrection kind axis level)
  | setProgressive (kind enabled : Nat) : Rejectable (.setProgressive kind enabled)
  | setListener (k enabled : Nat) : Rejectable (.setListener k enabled)
  | getRt (flag : Nat) : Rejectable (.getRt flag)

/-- Every answer there is: what instruction `i` can do on `s`. -/
inductive Answer (s : State) : Instr → State → Prop
  | create : Answer s .create { State.reset with inbox := s.inbox }
  | clear : Answer s .clear (cleared s)
  | destroy : Answer s .destroy { s with life := .destroyed, out := Result.okay }
  | decode {i : Instr} (g : Group) (lv : Levels) (hgroup : groupOf i = some g) : Answer s i (decodeRawGroup g lv s)
  | setCorrection (kind axis level : Nat) (thr : Thresholds) :
      Answer s (.setCorrection kind axis level) { s with thr := thr, out := Result.okay }
  | setProgressive (kind enabled : Nat) (prog : Progressive) :
      Answer s (.setProgressive kind enabled) { s with prog := prog, out := Result.okay }
  | setListener (k enabled : Nat) (listen : Listeners) :
      Answer s (.setListener k enabled) { s with listen := listen, out := Result.okay }
  | access {i : Instr} (v : Value) (hgroup : groupOf i = none) : Answer s i (resultOnly s v)
  | reject {i : Instr} (hi : Rejectable i) (hgroup : groupOf i = none) : Answer s i (rejected s)

/-- A group instruction or a command that decodes answers with the decode of its group. -/
theorem Answer.of_decodeRaw {i : Instr} {g : Group} {lv : Levels} {s t : State} (hgroup : groupOf i = some g)
    (hnext : exec (.decodeRaw g lv) s = .next t) : Answer s i t := by
  rw [exec, execDecodeRaw] at hnext
  obtain ⟨_, rfl⟩ := whenLive_next hnext
  exact .decode g lv hgroup

theorem groupOf_of_encode_group {i : Instr} {g : Group} {lv : Levels} (henc : encode i = .group g lv) :
    groupOf i = some g := by
  cases i with
  | create | destroy | clear | decodeHex | decodeRaw | setCorrection | setProgressive | setListener | getPi | getPty
  | getTp | getTa | getMs | getEcc | getCountry | getPs | getRt | getPtyn | getCt => cases henc
  | _ =>
    cases henc
    rfl

/-- An instruction that answers gives one of these answers. -/
theorem exec_answer {i : Instr} {s t : State} (hnext : exec i s = .next t) : Answer s i t := by
  by_cases hcreate : i = .create
  · subst hcreate
    cases hnext
    exact .create
  have hlive := live_of_exec_next hcreate hnext
  cases i with
  | create => exact absurd rfl hcreate
  | clear =>
    rw [exec_clear_of_live hlive] at hnext
    cases hnext
    exact .clear
  | decodeRaw g lv => exact .of_decodeRaw rfl hnext
  | decodeHex chars =>
    cases hparse : parseHex chars with
    | some g =>
      rw [exec_decodeHex_of_parseHex hparse] at hnext
      exact .of_decodeRaw hparse hnext
    | none =>
      rw [exec_decodeHex_of_parseHex_none hlive hparse] at hnext
      cases hnext
      exact .reject (.decodeHex chars) hparse
  | setCorrection kind axis level =>
    obtain ⟨_, _, _, _, _, _, hexec⟩ | ⟨_, hexec⟩ := exec_setCorrection_cases kind axis level hlive <;>
      rw [hexec] at hnext <;> cases hnext
    · exact .setCorrection kind axis level _
    · exact .reject (.setCorrection kind axis level) rfl
  | setProgressive kind enabled =>
    obtain ⟨_, _, _, _, hexec⟩ | ⟨_, hexec⟩ := exec_setProgressive_cases kind enabled hlive <;>
      rw [hexec] at hnext <;> cases hnext
    · exact .setProgressive kind enabled _
    · exact .reject (.setProgressive kind enabled) rfl
  | setListener k enabled =>
    obtain ⟨_, _, _, _, hexec⟩ | ⟨_, hexec⟩ := exec_setListener_cases k enabled hlive <;>
      rw [hexec] at hnext <;> cases hnext
    · exact .setListener k enabled _
    · exact .reject (.setListener k enabled) rfl
  | getRt flag =>
    rw [exec, execGetRt, whenLive_live _ hlive] at hnext
    cases hbit : bitOfCode flag <;> rw [hbit] at hnext <;> cases hnext
    · exact .reject (.getRt flag) rfl
    · exact .access _ rfl
  | destroy =>
    rw [exec, execDestroy, whenLive_live _ hlive] at hnext
    cases hnext
    exact .destroy
  | getPi | getPty | getTp | getTa | getMs | getEcc | getCountry | getPs | getPtyn | getCt =>
    simp only [exec, execGetPi, execGetPty, execGetTp, execGetTa, execGetMs, execGetEcc, execGetCountry, execGetPs,
      execGetPtyn, execGetCt, whenLive_live _ hlive] at hnext
    cases hnext
    exact .access _ rfl
  -- The group instructions.
  | _ =>
    rw [exec_of_encode_group rfl] at hnext
    exact .of_decodeRaw (groupOf_of_encode_group rfl) hnext

/-! ### The text form of a group (R140, R143) -/

theorem hexval_of_isHexDigit {ch : Nat} (hch : isHexDigit ch) : hexval ch = some (hexDigitValue ch) := by
  unfold isHexDigit at hch
  unfold hexval hexDigitValue
  rcases hch with hdigit | hupper | hlower
  · rw [if_pos hdigit, if_pos hdigit.2]
  · rw [if_neg (by omega), if_pos hupper, if_neg (by omega), if_pos hupper.2]
    exact congrArg some (by omega)
  · rw [if_neg (by omega), if_neg (by omega), if_pos hlower, if_neg (by omega), if_neg (by omega)]
    exact congrArg some (by omega)

/-- The number `16 ^ n * acc` continued by digits, the first of them worth `16 ^ (n - 1)`. -/
theorem hexNumber_of_digits {chars : List Nat} (hdigits : ∀ ch ∈ chars, isHexDigit ch) (acc : Nat) :
    hexNumber chars acc = some (16 ^ chars.length * acc +
      ((List.range chars.length).map fun j => hexDigitValue (chars.getD j 0) * 16 ^ (chars.length - 1 - j)).sum) := by
  induction chars generalizing acc with
  | nil => simp [hexNumber]
  | cons ch rest ih =>
    obtain ⟨hch, hrest⟩ := List.forall_mem_cons.1 hdigits
    have hshift (j : Nat) : rest.length + 1 - 1 - (j + 1) = rest.length - 1 - j := by omega
    rw [hexNumber, hexval_of_isHexDigit hch, List.length_cons, List.range_succ_eq_map, List.map_cons, List.sum_cons,
      List.map_map]
    refine (ih hrest _).trans (congrArg some ?_)
    simp only [Function.comp_def, List.getD_cons_zero, List.getD_cons_succ, Nat.succ_eq_add_one, hshift]
    rw [Nat.sub_zero, Nat.add_sub_cancel]
    ring

theorem parseHex_of_digits {chars : List Nat} (hlength : chars.length = 16) (hdigits : ∀ ch ∈ chars, isHexDigit ch) :
    parseHex chars = some (hexGroup chars) := by
  rw [parseHex, if_pos hlength, hexNumber_of_digits hdigits, hlength]
  simp [hexGroup]

/-- Settles O22: the string parses to the group of its number. -/
theorem hexStringDecodesAsItsNumber : Obligations.HexStringDecodesAsItsNumber := by
  intro chars s hlive hlength hdigits
  obtain ⟨t, ht⟩ := exec_of_live (.decodeRaw (hexGroup chars) Levels.zero) hlive
  exact ⟨t, ht, (exec_decodeHex_of_parseHex (parseHex_of_digits hlength hdigits) s).trans ht⟩

end Sys2Proof.Claims

/-!
PROOFS. The whole-machine rules: what an answer leaves unchanged and which group writes what (10_state), the listeners
(60_exceptions R372), the levels (40_group_decoder R149), the rejections (60_exceptions R361).
-/

namespace Sys2Proof.Claims

open Sys2Proof.Machine

/-! ### What every field decoder leaves alone -/

/-- From `s` to `t` the configuration, LIFE and the stream stay, and of the result at most the events change. -/
structure KeepsControl (s t : State) : Prop where
  thr : t.thr = s.thr
  prog : t.prog = s.prog
  listen : t.listen = s.listen
  life : t.life = s.life
  inbox : t.inbox = s.inbox
  ok : t.out.ok = s.out.ok
  value : t.out.value = s.out.value

theorem KeepsControl.refl (s : State) : KeepsControl s s := ⟨rfl, rfl, rfl, rfl, rfl, rfl, rfl⟩

theorem keepsControl_of_rtIntake {s t : State} (h : RtIntake s t) : KeepsControl s t := by
  obtain rfl | ⟨f, b, rfl⟩ := h
  · exact .refl t
  · cases f <;> exact ⟨rfl, rfl, rfl, rfl, rfl, rfl, rfl⟩

theorem keepsControl_group1A (f : Group1A) (s : State) : KeepsControl s (group1A f s) := by
  by_cases hvariant : f.variant = 0#3
  · rw [group1A_of_variant_zero hvariant]
    exact ⟨rfl, rfl, rfl, rfl, rfl, rfl, rfl⟩
  · rw [group1A_of_variant_ne_zero hvariant]
    exact .refl s

theorem keepsControl_group4A (f : Group4A) (s : State) : KeepsControl s (group4A f s) := by
  rcases group4A_cases f s with ⟨hvalid, _⟩ | ⟨_, h⟩
  · rw [group4A_of_valid hvalid]
    exact ⟨rfl, rfl, rfl, rfl, rfl, rfl, rfl⟩
  · rw [h]
    exact .refl s

theorem keepsControl_dispatchGroup (g : Group) (lv : Levels) (s : State) :
    KeepsControl s (dispatchGroup g lv s) := by
  unfold dispatchGroup
  split
  · rw [group0A_eq]; exact ⟨rfl, rfl, rfl, rfl, rfl, rfl, rfl⟩
  · rw [group0B_eq]; exact ⟨rfl, rfl, rfl, rfl, rfl, rfl, rfl⟩
  · exact keepsControl_group1A _ s
  · exact keepsControl_of_rtIntake (rtIntake_group2A lv _ s)
  · exact keepsControl_of_rtIntake (rtIntake_group2B lv _ s)
  · exact keepsControl_group4A _ s
  · rw [group10A_eq]; exact ⟨rfl, rfl, rfl, rfl, rfl, rfl, rfl⟩
  · exact .refl s

/-- A decode keeps the configuration, LIFE and the stream, and answers `ok` without a value. -/
theorem keepsControl_decodeRawGroup (g : Group) (lv : Levels) (s : State) :
    KeepsControl s.begin (decodeRawGroup g lv s) := by
  have hdispatch := keepsControl_dispatchGroup g lv (commonPart (headOf g) s.begin)
  exact ⟨hdispatch.thr, hdispatch.prog, hdispatch.listen, hdispatch.life, hdispatch.inbox, hdispatch.ok,
    hdispatch.value⟩

/-- Settles O10: no answer has another stream. -/
theorem instructionsLeaveTheStreamAlone : Obligations.InstructionsLeaveTheStreamAlone := by
  intro i s t hnext
  cases exec_answer hnext with
  | decode g lv _ => exact (keepsControl_decodeRawGroup g lv s).inbox
  | _ => rfl

/-- Settles O54: each answer that changes a control register is that of its command. -/
theorem controlRegistersAreWrittenOnlyByTheirCommand :
    Obligations.ControlRegistersAreWrittenOnlyByTheirCommand := by
  intro i s t hnext hcreate
  cases exec_answer hnext with
  | create => exact absurd rfl hcreate
  | destroy => exact ⟨fun _ => rfl, fun _ => rfl, fun _ => rfl, fun hne => absurd rfl hne⟩
  | decode g lv _ =>
    have hkeep := keepsControl_decodeRawGroup g lv s
    exact ⟨fun _ => hkeep.thr, fun _ => hkeep.prog, fun _ => hkeep.listen, fun _ => hkeep.life⟩
  | setCorrection kind axis level thr =>
    exact ⟨fun hne => absurd rfl (hne kind axis level), fun _ => rfl, fun _ => rfl, fun _ => rfl⟩
  | setProgressive kind enabled prog =>
    exact ⟨fun _ => rfl, fun hne => absurd rfl (hne kind enabled), fun _ => rfl, fun _ => rfl⟩
  | setListener k enabled listen =>
    exact ⟨fun _ => rfl, fun _ => rfl, fun hne => absurd rfl (hne k enabled), fun _ => rfl⟩
  | clear | access | reject => exact ⟨fun _ => rfl, fun _ => rfl, fun _ => rfl, fun _ => rfl⟩

/-- Settles O59: of all answers only a rejection has `ok` false. -/
theorem rejectedCommandsChangeNothing : Obligations.RejectedCommandsChangeNothing := by
  intro i s t hnext hok
  cases exec_answer hnext with
  | decode g lv _ =>
    rw [(keepsControl_decodeRawGroup g lv s).ok] at hok
    cases hok
  | reject hi _ =>
    refine ⟨rfl, ?_⟩
    cases hi with
    | decodeHex chars => exact .inl ⟨chars, rfl⟩
    | setCorrection kind axis level => exact .inr (.inl ⟨kind, axis, level, rfl⟩)
    | setProgressive kind enabled => exact .inr (.inr (.inl ⟨kind, enabled, rfl⟩))
    | setListener k enabled => exact .inr (.inr (.inr (.inl ⟨k, enabled, rfl⟩)))
    | getRt flag => exact .inr (.inr (.inr (.inr ⟨flag, rfl⟩)))
  | _ => cases hok

/-! ### Which group writes what -/

/-- From `s` to `t` a group with this opcode and 1A variant writes only what the spec names for it (10_state). -/
structure WritesOwn (code : Nat) (variant : BitVec 3) (s t : State) : Prop where
  afset : code ≠ 0 → t.afset = s.afset
  flags : code ≠ 0 → code ≠ 1 → t.ta = s.ta ∧ t.ms = s.ms ∧ t.ps = s.ps
  country : ¬ (code = 2 ∧ variant = 0#3) → t.ecc = s.ecc ∧ t.country = s.country
  rt : code ≠ 4 → code ≠ 5 → t.rtActive = s.rtActive ∧ t.rt0 = s.rt0 ∧ t.rt1 = s.rt1
  ct : code ≠ 8 → t.ct = s.ct
  ptyn : code ≠ 20 → t.ptyn = s.ptyn

theorem WritesOwn.refl (code : Nat) (variant : BitVec 3) (s : State) : WritesOwn code variant s s :=
  ⟨fun _ => rfl, fun _ _ => ⟨rfl, rfl, rfl⟩, fun _ => ⟨rfl, rfl⟩, fun _ _ => ⟨rfl, rfl, rfl⟩, fun _ => rfl,
    fun _ => rfl⟩

/-- RT_ACTIVE and the RT buffers are what the RT intake writes; its code is 4 or 5. -/
theorem writesOwn_of_rtIntake {code : Nat} (hcode : code = 4 ∨ code = 5) (variant : BitVec 3) {s t : State}
    (h : RtIntake s t) : WritesOwn code variant s t := by
  have hrt : code ≠ 4 → code ≠ 5 → False := fun h4 h5 => hcode.elim h4 h5
  obtain rfl | ⟨f, b, rfl⟩ := h
  · exact .refl _ _ t
  · cases f <;>
      exact ⟨fun _ => rfl, fun _ _ => ⟨rfl, rfl, rfl⟩, fun _ => ⟨rfl, rfl⟩, fun h4 h5 => (hrt h4 h5).elim,
        fun _ => rfl, fun _ => rfl⟩

theorem writesOwn_group1A (f : Group1A) (s : State) : WritesOwn 2 f.variant s (group1A f s) := by
  by_cases hvariant : f.variant = 0#3
  · rw [group1A_of_variant_zero hvariant]
    exact ⟨fun _ => rfl, fun _ _ => ⟨rfl, rfl, rfl⟩, fun hne => absurd ⟨rfl, hvariant⟩ hne,
      fun _ _ => ⟨rfl, rfl, rfl⟩, fun _ => rfl, fun _ => rfl⟩
  · rw [group1A_of_variant_ne_zero hvariant]
    exact .refl _ _ s

theorem writesOwn_group4A (variant : BitVec 3) (f : Group4A) (s : State) : WritesOwn 8 variant s (group4A f s) := by
  rcases group4A_cases f s with ⟨hvalid, _⟩ | ⟨_, h⟩
  · rw [group4A_of_valid hvalid]
    exact ⟨fun _ => rfl, fun _ _ => ⟨rfl, rfl, rfl⟩, fun _ => ⟨rfl, rfl⟩, fun _ _ => ⟨rfl, rfl, rfl⟩,
      fun hne => absurd rfl hne, fun _ => rfl⟩
  · rw [h]
    exact .refl _ _ s

/-- Whatever the group, its field decoder writes only what is its own. -/
theorem writesOwn_dispatchGroup (g : Group) (lv : Levels) (s : State) :
    WritesOwn (opcode g).toNat ((blockC g).extractLsb' 12 3) s (dispatchGroup g lv s) := by
  rw [← fields1A_variant]
  unfold dispatchGroup
  split
  next hop =>
    rw [hop, group0A_eq]
    exact ⟨fun hne => absurd rfl hne, fun hne => absurd rfl hne, fun _ => ⟨rfl, rfl⟩, fun _ _ => ⟨rfl, rfl, rfl⟩,
      fun _ => rfl, fun _ => rfl⟩
  next hop =>
    rw [hop, group0B_eq]
    exact ⟨fun _ => rfl, fun _ hne => absurd rfl hne, fun _ => ⟨rfl, rfl⟩, fun _ _ => ⟨rfl, rfl, rfl⟩, fun _ => rfl,
      fun _ => rfl⟩
  next hop => rw [hop]; exact writesOwn_group1A _ s
  next hop => rw [hop]; exact writesOwn_of_rtIntake (.inl rfl) _ (rtIntake_group2A lv _ s)
  next hop => rw [hop]; exact writesOwn_of_rtIntake (.inr rfl) _ (rtIntake_group2B lv _ s)
  next hop => rw [hop]; exact writesOwn_group4A _ _ s
  next hop =>
    rw [hop, group10A_eq]
    exact ⟨fun _ => rfl, fun _ _ => ⟨rfl, rfl, rfl⟩, fun _ => ⟨rfl, rfl⟩, fun _ _ => ⟨rfl, rfl, rfl⟩, fun _ => rfl,
      fun hne => absurd rfl hne⟩
  next => exact .refl _ _ s

/-- The common part writes PI, TP and PTY, which are every group's. -/
theorem writesOwn_decodeRawGroup (g : Group) (lv : Levels) (s : State) :
    WritesOwn (opcode g).toNat ((blockC g).extractLsb' 12 3) s (decodeRawGroup g lv s) := by
  obtain ⟨hafset, hflags, hcountry, hrt, hct, hptyn⟩ :=
    writesOwn_dispatchGroup g lv (commonPart (headOf g) s.begin)
  exact ⟨hafset, hflags, hcountry, hrt, hct, hptyn⟩

/-- Settles O53: a decode writes its group's own registers, and the other answers, CREATE and CLEAR apart, only control
registers, LIFE and the result. -/
theorem registersAreWrittenOnlyByTheirGroups : Obligations.RegistersAreWrittenOnlyByTheirGroups := by
  intro i s t hnext
  cases exec_answer hnext with
  | decode g lv hgroup =>
    refine ⟨fun g' hg' => ?_, fun hnone => absurd (hgroup.symm.trans hnone) (by simp)⟩
    obtain rfl : g = g' := Option.some.inj (hgroup.symm.trans hg')
    obtain ⟨hafset, hflags, hcountry, hrt, hct, hptyn⟩ := writesOwn_decodeRawGroup g lv s
    exact ⟨hafset, hflags, hcountry, hrt, hct, hptyn⟩
  | create => exact ⟨fun _ hg => (nomatch hg), fun _ hne => absurd rfl hne⟩
  | clear => exact ⟨fun _ hg => (nomatch hg), fun _ _ hne => absurd rfl hne⟩
  | access _ hgroup | reject _ hgroup =>
    exact ⟨fun _ hg => absurd (hgroup.symm.trans hg) (by simp), fun _ _ _ => rfl⟩
  | destroy | setCorrection | setProgressive | setListener => exact ⟨fun _ hg => (nomatch hg), fun _ _ _ => rfl⟩

/-! ### Listeners -/

/-- What `f` does to the registers and buffers, it does with any listeners and any last result. -/
def IgnoresListeners (f : State → State) : Prop :=
  ∀ (s : State) (l : Listeners) (r : Result), ∃ l' r',
    f { s with listen := l, out := r } = { f s with listen := l', out := r' }

theorem IgnoresListeners.comp {f f' : State → State} (hf : IgnoresListeners f) (hf' : IgnoresListeners f') :
    IgnoresListeners fun s => f (f' s) := by
  intro s l r
  obtain ⟨l', r', h'⟩ := hf' s l r
  obtain ⟨l'', r'', h⟩ := hf (f' s) l' r'
  exact ⟨l'', r'', (congrArg f h').trans h⟩

theorem ignoresListeners_self : IgnoresListeners fun s => s := fun _ l r => ⟨l, r, rfl⟩

theorem rtWritten_listeners (f : Bool) (b : TextBuffer) (s : State) (l : Listeners) (r : Result) :
    ∃ r', rtWritten f b { s with listen := l, out := r } = { rtWritten f b s with listen := l, out := r' } := by
  cases f <;> exact ⟨_, rfl⟩

theorem ignoresListeners_group0A (lv : Levels) (f : Group0A) : IgnoresListeners (group0A lv f) := by
  intro s l r
  rw [group0A_eq, group0A_eq]
  exact ⟨_, _, rfl⟩

theorem ignoresListeners_group0B (lv : Levels) (f : Group0B) : IgnoresListeners (group0B lv f) := by
  intro s l r
  rw [group0B_eq, group0B_eq]
  exact ⟨_, _, rfl⟩

theorem ignoresListeners_group10A (lv : Levels) (f : Group10A) : IgnoresListeners (group10A lv f) := by
  intro s l r
  rw [group10A_eq, group10A_eq]
  exact ⟨_, _, rfl⟩

theorem ignoresListeners_group1A (f : Group1A) : IgnoresListeners (group1A f) := by
  intro s l r
  by_cases hvariant : f.variant = 0#3
  · rw [group1A_of_variant_zero hvariant, group1A_of_variant_zero hvariant]
    exact ⟨_, _, rfl⟩
  · rw [group1A_of_variant_ne_zero hvariant, group1A_of_variant_ne_zero hvariant]
    exact ⟨_, _, rfl⟩

theorem ignoresListeners_group2A (lv : Levels) (f : Group2A) : IgnoresListeners (group2A lv f) := by
  intro s l r
  by_cases hgate : s.thr.rtInfo < lv.b
  · rw [group2A_of_lt hgate, group2A_of_lt (s := { s with listen := l, out := r }) hgate]
    exact ⟨_, _, rfl⟩
  · have hle := BitVec.not_lt.1 hgate
    rw [group2A_of_le hle, group2A_of_le (s := { s with listen := l, out := r }) hle]
    exact ⟨l, rtWritten_listeners _ _ s l r⟩

theorem ignoresListeners_group2B (lv : Levels) (f : Group2B) : IgnoresListeners (group2B lv f) := by
  intro s l r
  by_cases hgate : s.thr.rtInfo < lv.b
  · rw [group2B_of_lt hgate, group2B_of_lt (s := { s with listen := l, out := r }) hgate]
    exact ⟨_, _, rfl⟩
  · have hle := BitVec.not_lt.1 hgate
    rw [group2B_of_le hle, group2B_of_le (s := { s with listen := l, out := r }) hle]
    exact ⟨l, rtWritten_listeners _ _ s l r⟩

theorem ignoresListeners_group4A (f : Group4A) : IgnoresListeners (group4A f) := by
  intro s l r
  unfold group4A
  split <;> exact ⟨_, _, rfl⟩

theorem ignoresListeners_dispatchGroup (g : Group) (lv : Levels) : IgnoresListeners (dispatchGroup g lv) := by
  unfold dispatchGroup
  split
  · exact ignoresListeners_group0A lv _
  · exact ignoresListeners_group0B lv _
  · exact ignoresListeners_group1A _
  · exact ignoresListeners_group2A lv _
  · exact ignoresListeners_group2B lv _
  · exact ignoresListeners_group4A _
  · exact ignoresListeners_group10A lv _
  · exact ignoresListeners_self

theorem ignoresListeners_decodeRawGroup (g : Group) (lv : Levels) : IgnoresListeners (decodeRawGroup g lv) :=
  (ignoresListeners_dispatchGroup g lv).comp fun _ _ _ => ⟨_, _, rfl⟩

/-- The effect of every instruction but CREATE ignores the listeners. -/
theorem exec_eq_whenLive_ignoresListeners {i : Instr} (hcreate : i ≠ .create) :
    ∃ body, (∀ s, exec i s = whenLive s body) ∧ IgnoresListeners body := by
  cases i with
  | create => exact absurd rfl hcreate
  | decodeRaw g lv => exact ⟨_, fun _ => rfl, ignoresListeners_decodeRawGroup g lv⟩
  | decodeHex chars =>
    refine ⟨_, fun _ => rfl, ?_⟩
    cases parseHex chars with
    | some g => exact ignoresListeners_decodeRawGroup g Levels.zero
    | none => exact fun _ _ _ => ⟨_, _, rfl⟩
  | setCorrection | setProgressive | setListener | getRt =>
    refine ⟨_, fun _ => rfl, ?_⟩
    split <;> exact fun _ _ _ => ⟨_, _, rfl⟩
  | destroy | clear | getPi | getPty | getTp | getTa | getMs | getEcc | getCountry | getPs | getPtyn | getCt =>
    exact ⟨_, fun _ => rfl, fun _ _ _ => ⟨_, _, rfl⟩⟩
  -- The group instructions.
  | _ => exact ⟨_, exec_of_encode_group rfl, ignoresListeners_decodeRawGroup _ _⟩

/-- Settles O57: the two runs have one effect, which the listeners do not reach. -/
theorem listenersNeverChangeTheState : Obligations.ListenersNeverChangeTheState := by
  intro i s t l r hnext
  by_cases hcreate : i = .create
  · subst hcreate
    cases hnext
    exact ⟨_, rfl, rfl⟩
  obtain ⟨body, hexec, hignores⟩ := exec_eq_whenLive_ignoresListeners hcreate
  rw [hexec] at hnext
  obtain ⟨hlive, rfl⟩ := whenLive_next hnext
  obtain ⟨l', r', hbody⟩ := hignores s l r
  refine ⟨_, (hexec _).trans (whenLive_live body hlive), ?_⟩
  rw [hbody]

/-! ### Levels -/

/-- The nine registers that are no text agree. -/
structure SameRegisters (t t' : State) : Prop where
  pi : t'.pi = t.pi
  tp : t'.tp = t.tp
  pty : t'.pty = t.pty
  ta : t'.ta = t.ta
  ms : t'.ms = t.ms
  ecc : t'.ecc = t.ecc
  country : t'.country = t.country
  afset : t'.afset = t.afset
  ct : t'.ct = t.ct

theorem SameRegisters.refl (s : State) : SameRegisters s s := ⟨rfl, rfl, rfl, rfl, rfl, rfl, rfl, rfl, rfl⟩

theorem SameRegisters.of_both {s t t' : State} (h : SameRegisters s t) (h' : SameRegisters s t') :
    SameRegisters t t' :=
  ⟨h'.pi.trans h.pi.symm, h'.tp.trans h.tp.symm, h'.pty.trans h.pty.symm, h'.ta.trans h.ta.symm,
    h'.ms.trans h.ms.symm, h'.ecc.trans h.ecc.symm, h'.country.trans h.country.symm, h'.afset.trans h.afset.symm,
    h'.ct.trans h.ct.symm⟩

theorem sameRegisters_of_rtIntake {s t : State} (h : RtIntake s t) : SameRegisters s t := by
  obtain rfl | ⟨f, b, rfl⟩ := h
  · exact .refl t
  · cases f <;> exact ⟨rfl, rfl, rfl, rfl, rfl, rfl, rfl, rfl, rfl⟩

/-- At any two sets of levels a field decoder leaves the same registers. -/
theorem sameRegisters_dispatchGroup (g : Group) (lv lv' : Levels) (s : State) :
    SameRegisters (dispatchGroup g lv s) (dispatchGroup g lv' s) := by
  unfold dispatchGroup
  split
  · rw [group0A_eq, group0A_eq]; exact ⟨rfl, rfl, rfl, rfl, rfl, rfl, rfl, rfl, rfl⟩
  · rw [group0B_eq, group0B_eq]; exact ⟨rfl, rfl, rfl, rfl, rfl, rfl, rfl, rfl, rfl⟩
  · exact .refl _
  · exact .of_both (sameRegisters_of_rtIntake (rtIntake_group2A lv _ s))
      (sameRegisters_of_rtIntake (rtIntake_group2A lv' _ s))
  · exact .of_both (sameRegisters_of_rtIntake (rtIntake_group2B lv _ s))
      (sameRegisters_of_rtIntake (rtIntake_group2B lv' _ s))
  · exact .refl _
  · rw [group10A_eq, group10A_eq]; exact ⟨rfl, rfl, rfl, rfl, rfl, rfl, rfl, rfl, rfl⟩
  · exact .refl s

/-- No field decoder reads the level of block A. -/
theorem dispatchGroup_level_a (g : Group) (lv : Levels) (a : Level) (s : State) :
    dispatchGroup g { lv with a := a } s = dispatchGroup g lv s := rfl

/-- Settles O58: the registers do not depend on the levels, and block A's level is read nowhere. -/
theorem levelsReachTextOnly : Obligations.LevelsReachTextOnly := by
  intro g lv lv' s hlive
  obtain ⟨hpi, htp, hpty, hta, hms, hecc, hcountry, hafset, hct⟩ :=
    sameRegisters_dispatchGroup g lv lv' (commonPart (headOf g) s.begin)
  refine ⟨_, _, whenLive_live (decodeRawGroup g lv) hlive, whenLive_live (decodeRawGroup g lv') hlive, hpi, htp, hpty,
    hta, hms, hecc, hcountry, hafset, hct, ?_⟩
  rw [exec, execDecodeRaw, whenLive_live _ hlive, decodeRawGroup, dispatchGroup_level_a]
  rfl

/-! ### Events -/

/-- Events that come in the order of the kinds `ks`, each of a kind that is listened to (R372, R373). -/
structure InOrder (l : Listeners) (ks : List EventKind) (es : List Event) : Prop where
  kinds : (es.map Event.kind).Sublist ks
  listened : ∀ e ∈ es, l.get e.kind = true

theorem InOrder.nil (l : Listeners) (ks : List EventKind) : InOrder l ks [] :=
  ⟨List.nil_sublist ks, fun _ he => absurd he List.not_mem_nil⟩

theorem InOrder.append {l : Listeners} {ks ks' : List EventKind} {es es' : List Event} (h : InOrder l ks es)
    (h' : InOrder l ks' es') : InOrder l (ks ++ ks') (es ++ es') := by
  refine ⟨?_, fun e he => (List.mem_append.1 he).elim (h.listened e) (h'.listened e)⟩
  rw [List.map_append]
  exact h.kinds.append h'.kinds

/-- An event that is there only while it is listened to. -/
theorem InOrder.of_ite {l : Listeners} {e : Event} {c : Prop} [Decidable c] (hlisten : c → l.get e.kind = true) :
    InOrder l [e.kind] (if c then [e] else []) := by
  by_cases hc : c
  · rw [if_pos hc]
    exact ⟨List.Sublist.refl _, fun e' he' => by rw [List.mem_singleton.1 he']; exact hlisten hc⟩
  · rw [if_neg hc]
    exact .nil l _

theorem inOrder_changeEvent {α : Type} [DecidableEq α] (l : Listeners) (old : Option α) (new : α) (e : Event) :
    InOrder l [e.kind] (changeEvent (l.get e.kind) old new e) := .of_ite And.left

theorem inOrder_textEvent (l : Listeners) (len : Nat) (b b' : TextBuffer) (e : Event) :
    InOrder l [e.kind] (textEvent (l.get e.kind) len b b' e) := .of_ite And.left

theorem inOrder_afEvent (l : Listeners) (known : Bool) (n : Byte) : InOrder l [.af] (afEvent l.af known n) :=
  .of_ite (e := .af _) And.left

theorem inOrder_countryEvent (l : Listeners) (old new : Option CountryId) :
    InOrder l [.country] (countryEvent l.country old new) := .of_ite (e := .country new) And.left

theorem inOrder_commonEvents (h : Head) (s : State) : InOrder s.listen [.pi, .tp, .pty] (commonEvents h s) :=
  ((inOrder_changeEvent s.listen s.pi h.pi (.pi h.pi)).append
    (inOrder_changeEvent s.listen s.tp h.tp (.tp h.tp))).append
    (inOrder_changeEvent s.listen s.pty h.pty (.pty h.pty))

/-- From `s` to `t` events of the kinds `ks`, in this order, are added. -/
def AddsInOrder (ks : List EventKind) (s t : State) : Prop :=
  ∃ es, t.out.events = s.out.events ++ es ∧ InOrder s.listen ks es

theorem AddsInOrder.refl (ks : List EventKind) (s : State) : AddsInOrder ks s s :=
  ⟨[], (List.append_nil _).symm, .nil _ ks⟩

theorem addsInOrder_group0A (lv : Levels) (f : Group0A) (s : State) :
    AddsInOrder [.ta, .ms, .af, .af, .ps] s (group0A lv f s) := by
  rw [group0A_eq]
  refine ⟨_, rfl, ?_⟩
  have hta := inOrder_changeEvent s.listen s.ta f.ta (.ta f.ta)
  have hms := inOrder_changeEvent s.listen s.ms f.ms (.ms f.ms)
  exact (((hta.append hms).append (inOrder_afEvent _ _ _)).append (inOrder_afEvent _ _ _)).append
    (inOrder_textEvent s.listen 8 _ _ .ps)

theorem addsInOrder_group0B (lv : Levels) (f : Group0B) (s : State) :
    AddsInOrder [.ta, .ms, .ps] s (group0B lv f s) := by
  rw [group0B_eq]
  refine ⟨_, rfl, ?_⟩
  have hta := inOrder_changeEvent s.listen s.ta f.ta (.ta f.ta)
  have hms := inOrder_changeEvent s.listen s.ms f.ms (.ms f.ms)
  exact (hta.append hms).append (inOrder_textEvent s.listen 8 _ _ .ps)

theorem addsInOrder_group1A (f : Group1A) (s : State) : AddsInOrder [.ecc, .country] s (group1A f s) := by
  by_cases hvariant : f.variant = 0#3
  · rw [group1A_of_variant_zero hvariant]
    exact ⟨_, rfl, (inOrder_changeEvent s.listen s.ecc f.ecc (.ecc f.ecc)).append (inOrder_countryEvent _ _ _)⟩
  · rw [group1A_of_variant_ne_zero hvariant]
    exact .refl _ s

theorem addsInOrder_of_rtIntake {s t : State} (h : RtIntake s t) : AddsInOrder [.rt] s t := by
  obtain rfl | ⟨f, b, rfl⟩ := h
  · exact .refl _ t
  · refine ⟨_, ?_, inOrder_textEvent s.listen 64 (s.buf (.rt f)) b (.rt f)⟩
    cases f <;> rfl

theorem addsInOrder_group4A (f : Group4A) (s : State) : AddsInOrder [.ct] s (group4A f s) := by
  rcases group4A_cases f s with ⟨hvalid, _⟩ | ⟨_, h⟩
  · rw [group4A_of_valid hvalid]
    exact ⟨_, rfl, .of_ite (e := .ct (snapshot f)) id⟩
  · rw [h]
    exact .refl _ s

theorem addsInOrder_group10A (lv : Levels) (f : Group10A) (s : State) :
    AddsInOrder [.ptyn] s (group10A lv f s) := by
  rw [group10A_eq]
  exact ⟨_, rfl, inOrder_textEvent s.listen 8 _ _ .ptyn⟩

/-- A field decoder adds the events of its code's list after the common ones. -/
theorem addsInOrder_dispatchGroup (g : Group) (lv : Levels) (s : State) :
    AddsInOrder ((eventOrder (opcode g).toNat).drop 3) s (dispatchGroup g lv s) := by
  unfold dispatchGroup
  split
  next hop => rw [hop]; exact addsInOrder_group0A lv _ s
  next hop => rw [hop]; exact addsInOrder_group0B lv _ s
  next hop => rw [hop]; exact addsInOrder_group1A _ s
  next hop => rw [hop]; exact addsInOrder_of_rtIntake (rtIntake_group2A lv _ s)
  next hop => rw [hop]; exact addsInOrder_of_rtIntake (rtIntake_group2B lv _ s)
  next hop => rw [hop]; exact addsInOrder_group4A _ s
  next hop => rw [hop]; exact addsInOrder_group10A lv _ s
  next => exact .refl _ s

/-- The events of a decode: the common ones, then those of the field decoder. -/
theorem inOrder_decodeRawGroup (g : Group) (lv : Levels) (s : State) :
    InOrder s.listen (eventOrder (opcode g).toNat) (decodeRawGroup g lv s).out.events := by
  obtain ⟨es, hevents, hes⟩ := addsInOrder_dispatchGroup g lv (commonPart (headOf g) s.begin)
  rw [decodeRawGroup, hevents, commonPart_begin_eq]
  exact (inOrder_commonEvents (headOf g) s).append hes

/-- Settles O56: the list of a code is the kinds of the common part and of its field decoder. -/
theorem eventsComeInDecodingOrder : Obligations.EventsComeInDecodingOrder := by
  intro g lv s t hnext
  rw [exec, execDecodeRaw] at hnext
  obtain ⟨_, rfl⟩ := whenLive_next hnext
  exact (inOrder_decodeRawGroup g lv s).kinds

/-- Settles O55: the events of a decode are listened to, and the other answers have none. -/
theorem eventsNeedTheirListenerAndADecode : Obligations.EventsNeedTheirListenerAndADecode := by
  intro i s t hnext
  cases exec_answer hnext with
  | decode g lv hgroup =>
    exact ⟨(inOrder_decodeRawGroup g lv s).listened, fun hnone => absurd (hgroup.symm.trans hnone) (by simp)⟩
  | _ => exact ⟨fun _ he => absurd he List.not_mem_nil, fun _ => rfl⟩

end Sys2Proof.Claims

/-!
PROOFS. Reset and the life cycle (70_reset_and_hazards R401, 45_commands R321 to R323), the step (60_exceptions R384),
the remaining commands and accessors (45_commands R329, R339) and the operand codes (30_encoding R109).
-/

namespace Sys2Proof.Claims

open Sys2Proof.Machine

/-! ### Reset -/

/-- The four buffers of the reset state are blank, each of its own length. -/
theorem reset_buf (id : BufId) : State.reset.buf id = TextBuffer.blank id.len := by
  cases id with
  | rt f => cases f <;> rfl
  | _ => rfl

theorem blank_values (len : Nat) :
    (TextBuffer.blank len).conf = 0 ∧ (TextBuffer.blank len).efflen = len ∧
      ∀ p, (TextBuffer.blank len).chrAt p = 0x20#8 ∧ (TextBuffer.blank len).errAt p = 3#2 ∧
        (TextBuffer.blank len).pubChrAt p = 0x20#8 ∧ (TextBuffer.blank len).pubErrAt p = 3#2 :=
  ⟨rfl, rfl, fun _ => ⟨rfl, rfl, rfl, rfl⟩⟩

/-- Settles O1: item by item. -/
theorem resetLeavesSpecValues : Obligations.ResetLeavesSpecValues := by
  refine ⟨rfl, rfl, rfl, rfl, rfl, rfl, rfl, rfl, rfl, rfl, rfl, fun id => ?_, fun k x => ?_, fun k => ?_, fun k => ?_⟩
  · rw [reset_buf]
    exact blank_values id.len
  · cases k <;> cases x <;> rfl
  · cases k <;> rfl
  · cases k <;> rfl

/-- Settles O2: CREATE does not read the state but for the stream. -/
theorem createResetsEveryItem : Obligations.CreateResetsEveryItem := fun _ => ⟨rfl, rfl⟩

/-- Settles O3: while LIFE is LIVE the answer is the effect of DESTROY. -/
theorem destroyEndsTheLife : Obligations.DestroyEndsTheLife := by
  intro s hlive
  rw [exec, execDestroy, whenLive_live _ hlive]
  rfl

/-! ### CLEAR -/

theorem cleared_buf (s : State) (id : BufId) : (cleared s).buf id = TextBuffer.blank id.len := by
  cases id with
  | rt f => cases f <;> rfl
  | _ => rfl

/-- The view of a blank buffer is spaces with count 3 (R244, R323). -/
theorem view_of_blank {s : State} {id : BufId} (hblank : s.buf id = TextBuffer.blank id.len) :
    s.view id = ⟨List.replicate id.len 0x20, List.replicate id.len 3#2, id.len⟩ := by
  rw [State.view, hblank]
  simp only [blank_pubChrAt, blank_pubErrAt, List.map_const', List.length_range]
  rfl

theorem exec_getPs {s : State} (hlive : s.life = .live) : exec .getPs s = .next (resultOnly s (.text (s.view .ps))) :=
  whenLive_answer (fun s => .text (s.view .ps)) hlive

theorem exec_getPtyn {s : State} (hlive : s.life = .live) :
    exec .getPtyn s = .next (resultOnly s (.text (s.view .ptyn))) :=
  whenLive_answer (fun s => .text (s.view .ptyn)) hlive

/-- GET_RT answers with the view of the buffer its flag names (R339). -/
theorem exec_getRt_of_bit {s : State} (hlive : s.life = .live) {flag : Nat} {f : Bool}
    (hbit : bitOfCode flag = some f) : exec (.getRt flag) s = .next (resultOnly s (.text (s.view (.rt f)))) := by
  rw [exec, execGetRt, whenLive_live _ hlive, hbit]
  rfl

/-- Settles O5: CLEAR blanks the registers and buffers, and each accessor answers what it finds there. -/
theorem clearEmptiesTheDecodedState : Obligations.ClearEmptiesTheDecodedState := by
  refine ⟨rfl, fun s hlive => ⟨cleared s, exec_clear_of_live hlive, rfl, rfl, rfl, rfl, rfl, rfl, rfl, rfl, rfl,
    afMember_empty, fun id => ?_, rfl, rfl, rfl, rfl, rfl, rfl, ?_⟩⟩
  · rw [cleared_buf]
    exact blank_values id.len
  · have hstill : (cleared s).life = .live := hlive
    obtain ⟨hpi, hpty, htp, hta, hms, hecc, hcountry⟩ := scalarAccessorsReadTheirRegister.2 (cleared s) hstill
    refine ⟨hpi, hpty, htp, hta, hms, hecc, hcountry, exec_getCt hstill, ?_, ?_, ?_, ?_⟩
    · rw [exec_getPs hstill, view_of_blank (cleared_buf s .ps)]
      rfl
    · rw [exec_getPtyn hstill, view_of_blank (cleared_buf s .ptyn)]
      rfl
    · rw [exec_getRt_of_bit hstill (f := false) rfl, view_of_blank (cleared_buf s _)]
      rfl
    · rw [exec_getRt_of_bit hstill (f := true) rfl, view_of_blank (cleared_buf s _)]
      rfl

/-! ### The step -/

/-- Settles O6: the step decodes the first frame and runs what it is. -/
theorem stepRunsTheDecodedInstruction : Obligations.StepRunsTheDecodedInstruction := by
  intro s frame rest i hinbox hdecode
  simp only [step, hinbox, hdecode]

/-- Settles O7: an empty stream is the idle case of the step. -/
theorem idleStepKeepsEverything : Obligations.IdleStepKeepsEverything := by
  intro s hinbox
  simp only [step, hinbox]

/-! ### Operand codes -/

theorem eventKindOfCode_eq_none_iff (n : Nat) : eventKindOfCode n = none ↔ 11 < n := by
  by_cases hn : 11 < n
  · obtain ⟨m, rfl⟩ := Nat.exists_eq_add_of_le' hn
    simp [eventKindOfCode]
  · interval_cases n <;> simp [eventKindOfCode]

/-- Settles O47: the codes in the set one by one, and none outside it. -/
theorem operandCodes : Obligations.OperandCodes := by
  refine ⟨rfl, rfl, rfl, rfl, fun n hn => ?_, rfl, rfl, rfl, fun n => (eventKindOfCode_eq_none_iff n).2⟩
  obtain ⟨m, rfl⟩ := Nat.exists_eq_add_of_le' hn
  exact ⟨rfl, rfl, rfl⟩

/-! ### SET_LISTENER and GET_RT -/

/-- Settles O46: the operands decide which of the setter's two cases holds, and writing one bit leaves the others. -/
theorem setListenerSetsOneBit : Obligations.SetListenerSetsOneBit := by
  intro k enabled s hlive
  obtain ⟨e, b, he, hb, hexec⟩ | ⟨hbad, hexec⟩ := exec_setListener_cases k enabled hlive
  · refine ⟨fun _ _ => ⟨e, _, he, hexec, ?_, fun e' => listeners_get_set_other s.listen e e' b, rfl, rfl⟩,
      fun hbad => ?_⟩
    · rw [listeners_get_set_same, (bitOfCode_eq_some_iff enabled b).1 hb]
      cases b <;> rfl
    · rw [← eventKindOfCode_eq_none_iff, ← bitOfCode_eq_none_iff] at hbad
      simp [he, hb] at hbad
  · refine ⟨fun hk hbit => ?_, fun _ => hexec⟩
    rw [eventKindOfCode_eq_none_iff, bitOfCode_eq_none_iff] at hbad
    omega

/-- Settles O51: the flag names one of the two buffers or is rejected. -/
theorem getRtViewsTheNamedBuffer : Obligations.GetRtViewsTheNamedBuffer := by
  refine fun flag s hlive => ⟨fun hflag => ?_, fun hflag => ?_⟩
  · have hbit : bitOfCode flag = some (flag == 1) := by
      obtain rfl | rfl := hflag <;> rfl
    exact ⟨_, exec_getRt_of_bit hlive hbit, isViewOf_view s (.rt (flag == 1))⟩
  · rw [exec, execGetRt, whenLive_live _ hlive, (bitOfCode_eq_none_iff flag).2 hflag]
    rfl

end Sys2Proof.Claims

/-!
PROOFS. Where the fields of the formats stand in the blocks (30_encoding R91 to R99), and the registers every decode
sets (40_group_decoder R144).
-/

namespace Sys2Proof.Claims

open Sys2Proof.Machine

/-! ### Blocks as parts of the word -/

/-- A part of a part of a word. -/
theorem extractLsb'_of_extractLsb' (g : Group) {base width start len : Nat} (hle : start + len ≤ width) :
    (g.extractLsb' base width).extractLsb' start len = g.extractLsb' (base + start) len := by
  apply BitVec.eq_of_getLsbD_eq
  intro i hi
  have hin : start + i < width := by omega
  simp [hi, hin, Nat.add_assoc]

theorem extractLsb'_blockB (g : Group) {start len : Nat} (hle : start + len ≤ 16) :
    (blockB g).extractLsb' start len = g.extractLsb' (32 + start) len := extractLsb'_of_extractLsb' g hle

theorem extractLsb'_blockC (g : Group) {start len : Nat} (hle : start + len ≤ 16) :
    (blockC g).extractLsb' start len = g.extractLsb' (16 + start) len := extractLsb'_of_extractLsb' g hle

theorem extractLsb'_blockD (g : Group) {start len : Nat} (hle : start + len ≤ 16) :
    (blockD g).extractLsb' start len = g.extractLsb' start len :=
  (extractLsb'_of_extractLsb' g hle).trans (by rw [Nat.zero_add])

theorem getLsbD_blockD (g : Group) {i : Nat} (hi : i < 16) : (blockD g).getLsbD i = g.getLsbD i := by
  simp [blockD, hi]

/-- Settles O14: each field is the same bits of the word as the bits of its block. -/
theorem fieldsStandWhereTheFormatsSay : Obligations.FieldsStandWhereTheFormatsSay := by
  intro g
  have hmjd : (fields4A g).mjd = (blockB g).extractLsb' 0 2 ++ (blockC g).extractLsb' 1 15 := by
    rw [extractLsb'_blockB g (by decide), extractLsb'_blockC g (by decide),
      BitVec.extractLsb'_append_extractLsb'_eq_extractLsb' (by rfl)]
    rfl
  have hhour : (fields4A g).hour = (blockC g).extractLsb' 0 1 ++ (blockD g).extractLsb' 12 4 := by
    rw [extractLsb'_blockC g (by decide), extractLsb'_blockD g (by decide),
      BitVec.extractLsb'_append_extractLsb'_eq_extractLsb' (by rfl)]
    rfl
  rw [hmjd, hhour]
  simp (disch := decide) only [extractLsb'_blockB, extractLsb'_blockC, extractLsb'_blockD, getLsbD_blockB,
    getLsbD_blockD]
  repeat' constructor

/-- Settles O15: the decoder computes on fixed words. -/
theorem workedEncodingsDecode : Obligations.WorkedEncodingsDecode := by
  refine ⟨?_, ?_, ?_, ?_, rfl, rfl, rfl⟩ <;> rfl

/-! ### The common registers -/

/-- After a decode of a group the common registers hold the group's values. -/
theorem holdsCommon_decodeRawGroup (g : Group) (lv : Levels) (s : State) :
    HoldsCommon g (decodeRawGroup g lv s) := by
  obtain ⟨hpi, htp, hpty, hok, _⟩ := keepsCommon_dispatchGroup g lv (commonPart (headOf g) s.begin)
  obtain ⟨hA, hB10, hB9, _⟩ := fieldsStandWhereTheFormatsSay g
  refine ⟨hok, hpi.trans ?_, htp.trans ?_, hpty.trans ?_⟩
  · rw [← hA, commonPart_pi]
  · rw [← hB10, commonPart_tp]
  · rw [← hB9, commonPart_pty]

theorem exec_decodeRaw_of_live {s : State} (hlive : s.life = .live) (g : Group) (lv : Levels) :
    exec (.decodeRaw g lv) s = .next (decodeRawGroup g lv s) := whenLive_live _ hlive

/-- Settles O19: a string of 16 digits is decoded as its group at levels 0. -/
theorem everyDecodeSetsTheCommonRegisters : Obligations.EveryDecodeSetsTheCommonRegisters := by
  refine ⟨fun g lv s hlive => ⟨_, exec_decodeRaw_of_live hlive g lv, holdsCommon_decodeRawGroup g lv s⟩,
    fun chars s hlive hlength hdigits => ?_⟩
  refine ⟨_, ?_, holdsCommon_decodeRawGroup (hexGroup chars) Levels.zero s⟩
  rw [exec_decodeHex_of_parseHex (parseHex_of_digits hlength hdigits), exec_decodeRaw_of_live hlive]

end Sys2Proof.Claims

/-!
PROOFS. The calendar of the clock time (44_clock_time R293, R294). The algorithm counts in years that begin on 1 March,
in eras of 400 years; the day of an MJD is the day of such a year, and the next day is the next one of the same year or
the first of the next.
-/

namespace Sys2Proof.Claims

open Sys2Proof.Machine

/-! ### Years that begin on 1 March -/

theorem isLeapYear_iff (y : Nat) : isLeapYear y = true ↔ (y % 4 = 0 ∧ y % 100 ≠ 0) ∨ y % 400 = 0 := by
  simp [isLeapYear]

/-- Day `doy` (from 0) is one of the year that begins on 1 March of `year`: its February is that of the next year. -/
def MarchDay (year doy : Nat) : Prop := doy < 365 ∨ (doy = 365 ∧ isLeapYear (year + 1) = true)

/-- The first day of month `mp` of such a year, March being month 0. -/
def monthStart (mp : Nat) : Nat := (153 * mp + 2) / 5

/-- The date of day `doy` of the year that begins on 1 March of `year`. -/
def marchDate (year doy : Nat) : Nat × Nat × Nat :=
  let mp := (5 * doy + 2) / 153
  let month := if mp < 10 then mp + 3 else mp - 9
  (year + (if month ≤ 2 then 1 else 0), month, doy - monthStart mp + 1)

/-! ### Days and their coordinates

An era has 146097 days, a century of it 36524, four years 1461, a year 365; the last of each has the leap days left. -/

/-- Day `doy` of year `r` of four, of the four years `q` of century `c` of era `era`, is day `n` of the count. -/
structure DayAt (n year doy : Nat) (era c q r : Nat) : Prop where
  century : c < 4
  four : q < 25
  inFour : r < 4
  year_eq : year = 400 * era + 100 * c + 4 * q + r
  count_eq : n = 146097 * era + 36524 * c + 1461 * q + 365 * r + doy

/-- The next year is a leap year if this one is the last of its four, and not the last of its century unless of its
era. -/
theorem DayAt.isLeapYear_iff {n year doy era c q r : Nat} (h : DayAt n year doy era c q r) :
    isLeapYear (year + 1) = true ↔ r = 3 ∧ (q ≠ 24 ∨ c = 3) := by
  obtain ⟨hc, hq, hr, rfl, _⟩ := h
  rw [Claims.isLeapYear_iff]
  omega

/-- The year of the era, as the algorithm finds it from the day of the era. -/
theorem yearOfEra_eq {c q r doy doe : Nat} (hc : c < 4) (hq : q < 25) (hr : r < 4)
    (hdoy : doy < 365 ∨ (doy = 365 ∧ r = 3 ∧ (q ≠ 24 ∨ c = 3)))
    (hdoe : doe = 36524 * c + 1461 * q + 365 * r + doy) :
    (doe - doe / 1460 + doe / 36524 - doe / 146096) / 365 = 100 * c + 4 * q + r := by
  by_cases hlast : doe = 146096
  · obtain ⟨rfl, rfl, rfl⟩ : c = 3 ∧ q = 24 ∧ r = 3 := by omega
    rw [hlast]
  have hlt : 1461 * q + 365 * r + doy < 36524 := by omega
  have hera : doe / 146096 = 0 := Nat.div_eq_of_lt (by omega)
  have hcentury : doe / 36524 = c := Nat.div_eq_of_lt_le (by omega) (by omega)
  -- The quotient by 1460 runs ahead of the leap days by one in the last days of four years.
  obtain ⟨ahead, hahead⟩ : ∃ n, n = (24 * c + q + 365 * r + doy) / 1460 := ⟨_, rfl⟩
  have hfour : doe / 1460 = 25 * c + q + ahead := by
    rw [hahead, show doe = 1460 * (25 * c + q) + (24 * c + q + 365 * r + doy) by omega,
      Nat.mul_add_div (by decide)]
  have hrange : ahead ≤ doy ∧ doy - ahead < 365 := by
    clear hcentury hfour hera hlt hlast
    omega
  rw [hera, hcentury, hfour]
  exact Nat.div_eq_of_lt_le (by omega) (by omega)

/-- The algorithm gives the date of the day's coordinates. -/
theorem civilFromMjd_eq {mjd year doy era c q r : Nat} (h : DayAt (mjd + 678881) year doy era c q r)
    (hday : MarchDay year doy) : civilFromMjd mjd = marchDate year doy := by
  rw [MarchDay, h.isLeapYear_iff] at hday
  obtain ⟨hc, hq, hr, hyear, hcount⟩ := h
  have hlt : 36524 * c + 1461 * q + 365 * r + doy < 146097 := by omega
  have hera : (mjd + 678881) / 146097 = era := Nat.div_eq_of_lt_le (by omega) (by omega)
  have hdoe : mjd + 678881 - era * 146097 = 36524 * c + 1461 * q + 365 * r + doy := by omega
  have hyoe := yearOfEra_eq hc hq hr hday hdoe
  have hleap : (100 * c + 4 * q + r) / 4 = 25 * c + q := by omega
  have hnoLeap : (100 * c + 4 * q + r) / 100 = c := by omega
  have hdoy : 36524 * c + 1461 * q + 365 * r + doy - (365 * (100 * c + 4 * q + r) + (25 * c + q) - c) = doy := by
    omega
  have hsum : 100 * c + 4 * q + r + era * 400 = year := by omega
  rw [hdoe] at hyoe
  simp only [civilFromMjd, hera, hdoe, hyoe, hleap, hnoLeap, hdoy, marchDate, hsum, monthStart]

/-- After the last day of a year comes day 0 of the next, in the next four, century or era at their ends. -/
theorem DayAt.new_year {n year doy era c q r : Nat} (h : DayAt n year doy era c q r) (hday : MarchDay year doy)
    (hlast : ¬ MarchDay year (doy + 1)) : ∃ era' c' q' r', DayAt (n + 1) (year + 1) 0 era' c' q' r' := by
  rw [MarchDay, h.isLeapYear_iff] at hday hlast
  obtain ⟨hc, hq, hr, hyear, hcount⟩ := h
  by_cases hr' : r < 3
  · exact ⟨era, c, q, r + 1, hc, hq, by omega, by omega, by omega⟩
  by_cases hq' : q < 24
  · exact ⟨era, c, q + 1, 0, hc, by omega, by omega, by omega, by omega⟩
  by_cases hc' : c < 3
  · exact ⟨era, c + 1, 0, 0, by omega, by omega, by omega, by omega, by omega⟩
  · exact ⟨era + 1, 0, 0, 0, by omega, by omega, by omega, by omega, by omega⟩

/-- Every day has coordinates. -/
theorem exists_dayAt (n : Nat) : ∃ year doy era c q r, MarchDay year doy ∧ DayAt n year doy era c q r := by
  induction n with
  | zero => exact ⟨0, 0, 0, 0, 0, 0, .inl (by decide), by decide, by decide, by decide, rfl, rfl⟩
  | succ n ih =>
    obtain ⟨year, doy, era, c, q, r, hday, h⟩ := ih
    by_cases hnext : MarchDay year (doy + 1)
    · exact ⟨year, doy + 1, era, c, q, r, hnext, h.century, h.four, h.inFour, h.year_eq, by rw [h.count_eq]; rfl⟩
    · obtain ⟨era', c', q', r', h'⟩ := h.new_year hday hnext
      exact ⟨year + 1, 0, era', c', q', r', .inl (by decide), h'⟩

/-! ### The next day -/

/-- The next day is in the same month, the first of the next month, or the first of the next year. -/
theorem nextDay_cases (y m d : Nat) :
    (d < daysInMonth y m ∧ nextDay (y, m, d) = (y, m, d + 1)) ∨
      (daysInMonth y m ≤ d ∧ m < 12 ∧ nextDay (y, m, d) = (y, m + 1, 1)) ∨
      (daysInMonth y m ≤ d ∧ 12 ≤ m ∧ nextDay (y, m, d) = (y + 1, 1, 1)) := by
  by_cases hd : d < daysInMonth y m
  · exact .inl ⟨hd, if_pos hd⟩
  by_cases hm : m < 12
  · exact .inr (.inl ⟨by omega, hm, (if_neg hd).trans (if_pos hm)⟩)
  · exact .inr (.inr ⟨by omega, by omega, (if_neg hd).trans (if_neg hm)⟩)

theorem nextDay_of_lt {y m d : Nat} (hd : d < daysInMonth y m) : nextDay (y, m, d) = (y, m, d + 1) := if_pos hd

theorem nextDay_of_last {y m d : Nat} (hd : d = daysInMonth y m) (hm : m < 12) :
    nextDay (y, m, d) = (y, m + 1, 1) := (if_neg (by omega)).trans (if_pos hm)

theorem nextDay_of_last_december {y d : Nat} (hd : d = daysInMonth y 12) : nextDay (y, 12, d) = (y + 1, 1, 1) :=
  (if_neg (by omega)).trans (if_neg (by decide))

/-- The date of a day of the months March to December. -/
theorem marchDate_of_month_lt {mp doy : Nat} (year : Nat) (hmp : mp < 10) (hstart : monthStart mp ≤ doy)
    (hend : doy < monthStart (mp + 1)) : marchDate year doy = (year, mp + 3, doy - monthStart mp + 1) := by
  have hmonth : (5 * doy + 2) / 153 = mp := by
    unfold monthStart at hstart hend
    omega
  have hlater : ¬ mp + 3 ≤ 2 := by omega
  simp only [marchDate, hmonth, if_pos hmp, if_neg hlater, Nat.add_zero]

/-- The date of a day of January. -/
theorem marchDate_of_january {doy : Nat} (year : Nat) (hstart : 306 ≤ doy) (hend : doy < 337) :
    marchDate year doy = (year + 1, 1, doy - 306 + 1) := by
  have hmonth : (5 * doy + 2) / 153 = 10 := by omega
  simp only [marchDate, hmonth]
  rfl

/-- The date of a day of February. -/
theorem marchDate_of_february {doy : Nat} (year : Nat) (hstart : 337 ≤ doy) (hend : doy < 366) :
    marchDate year doy = (year + 1, 2, doy - 337 + 1) := by
  have hmonth : (5 * doy + 2) / 153 = 11 := by omega
  simp only [marchDate, hmonth]
  rfl

/-- The lengths of the months March to December do not depend on the year. -/
theorem daysInMonth_of_month_lt {mp : Nat} (year : Nat) (hmp : mp < 10) :
    daysInMonth year (mp + 3) = monthStart (mp + 1) - monthStart mp := by
  interval_cases mp <;> rfl

theorem monthStart_lt_succ (mp : Nat) : monthStart mp < monthStart (mp + 1) := by
  unfold monthStart
  omega

/-- From March to December the next day is the next of the month, the first of the next month, or 1 January. -/
theorem marchDate_succ_of_month_lt {mp doy : Nat} (year : Nat) (hmp : mp < 10) (hstart : monthStart mp ≤ doy)
    (hend : doy < monthStart (mp + 1)) : marchDate year (doy + 1) = nextDay (marchDate year doy) := by
  have hdays := daysInMonth_of_month_lt year hmp
  rw [marchDate_of_month_lt year hmp hstart hend]
  by_cases hlast : doy + 1 < monthStart (mp + 1)
  · rw [marchDate_of_month_lt year hmp (by omega) hlast, nextDay_of_lt (by omega), Nat.sub_add_comm hstart]
  obtain rfl | hmp' : mp = 9 ∨ mp + 1 < 10 := by omega
  · have hdoy : doy = 305 := by
      change 275 ≤ doy at hstart
      change ¬ doy + 1 < 306 at hlast
      change doy < 306 at hend
      omega
    subst hdoy
    exact (marchDate_of_january year (by decide) (by decide)).trans (nextDay_of_last_december rfl).symm
  · have hnext := monthStart_lt_succ (mp + 1)
    have hfirst : doy + 1 - monthStart (mp + 1) = 0 := by omega
    rw [marchDate_of_month_lt year hmp' (by omega) (by omega), nextDay_of_last (by omega) (by omega), hfirst]

/-- Within a year the date of the next day is the next date. -/
theorem marchDate_succ {year doy : Nat} (hday : MarchDay year (doy + 1)) :
    marchDate year (doy + 1) = nextDay (marchDate year doy) := by
  obtain hearly | hjanuary | hfebruary : doy < 306 ∨ (306 ≤ doy ∧ doy < 337) ∨ 337 ≤ doy := by omega
  · have hmonth : (5 * doy + 2) / 153 < 10 := by omega
    refine marchDate_succ_of_month_lt year hmonth ?_ ?_ <;> unfold monthStart <;> omega
  · obtain ⟨hstart, hend⟩ := hjanuary
    rw [marchDate_of_january year hstart hend]
    by_cases hlast : doy = 336
    · subst hlast
      exact (marchDate_of_february year (by decide) (by decide)).trans (nextDay_of_last rfl (by decide)).symm
    · have hdays : daysInMonth (year + 1) 1 = 31 := rfl
      rw [marchDate_of_january year (by omega) (by omega), nextDay_of_lt (by omega), Nat.sub_add_comm hstart]
  · have hdays : doy - 337 + 1 < daysInMonth (year + 1) 2 := by
      obtain hlt | ⟨hlast, hleap⟩ := hday
      · rw [daysInMonth]
        split <;> omega
      · rw [daysInMonth, if_pos hleap]
        omega
    have hlt : doy + 1 < 366 := by
      obtain hlt | ⟨hlast, _⟩ := hday <;> omega
    rw [marchDate_of_february year hfebruary (by omega), marchDate_of_february year (by omega) hlt,
      nextDay_of_lt hdays, Nat.sub_add_comm hfebruary]

/-- After the last day of February comes 1 March. -/
theorem marchDate_new_year {year doy : Nat} (hday : MarchDay year doy) (hlast : ¬ MarchDay year (doy + 1)) :
    marchDate (year + 1) 0 = nextDay (marchDate year doy) := by
  have hrange : 337 ≤ doy ∧ doy < 366 := by
    unfold MarchDay at hday hlast
    omega
  have hdays : doy - 337 + 1 = daysInMonth (year + 1) 2 := by
    unfold MarchDay at hday hlast
    by_cases hleap : isLeapYear (year + 1) = true
    · simp only [hleap, and_true] at hday hlast
      rw [daysInMonth, if_pos hleap]
      omega
    · simp only [hleap, Bool.false_eq_true, and_false, or_false] at hday hlast
      rw [daysInMonth, if_neg hleap]
      omega
  rw [marchDate_of_february year hrange.1 hrange.2, nextDay_of_last hdays (by decide)]
  rfl

/-- The date of the next MJD is the next date, for every MJD. -/
theorem civilFromMjd_succ (mjd : Nat) : civilFromMjd (mjd + 1) = nextDay (civilFromMjd mjd) := by
  obtain ⟨year, doy, era, c, q, r, hday, h⟩ := exists_dayAt (mjd + 678881)
  rw [civilFromMjd_eq h hday]
  by_cases hnext : MarchDay year (doy + 1)
  · have h' : DayAt (mjd + 1 + 678881) year (doy + 1) era c q r :=
      ⟨h.century, h.four, h.inFour, h.year_eq, by rw [Nat.add_right_comm, h.count_eq]; rfl⟩
    rw [civilFromMjd_eq h' hnext, marchDate_succ hnext]
  · obtain ⟨era', c', q', r', h'⟩ := h.new_year hday hnext
    rw [Nat.add_right_comm] at h'
    rw [civilFromMjd_eq h' (.inl (by decide)), marchDate_new_year hday hnext]

/-- Settles O38: MJD 0 is computed, and every next day is the next date. -/
theorem mjdCountsCalendarDays : Obligations.MjdCountsCalendarDays :=
  ⟨by decide, fun mjd _ => civilFromMjd_succ mjd⟩

/-! ### The dates of the 17-bit range -/

theorem daysInMonth_pos_iff (y m : Nat) : 0 < daysInMonth y m ↔ 1 ≤ m ∧ m ≤ 12 := by
  by_cases hm : m ≤ 12
  · interval_cases m <;> simp [daysInMonth]
    split <;> decide
  · obtain ⟨k, rfl⟩ := Nat.exists_eq_add_of_le' (show 13 ≤ m by omega)
    have hnone : daysInMonth y (k + 13) = 0 := rfl
    omega

theorem validDate_iff (y m d : Nat) : validDate y m d = true ↔ 1 ≤ d ∧ d ≤ daysInMonth y m := by
  simp [validDate]

/-- The day after a date is a date. -/
theorem validDate_nextDay {date : Nat × Nat × Nat} (hdate : validDate date.1 date.2.1 date.2.2 = true) :
    validDate (nextDay date).1 (nextDay date).2.1 (nextDay date).2.2 = true := by
  obtain ⟨y, m, d⟩ := date
  simp only [validDate_iff] at hdate ⊢
  have hmonth := (daysInMonth_pos_iff y m).1 (by omega)
  obtain ⟨hd, h⟩ | ⟨_, hm, h⟩ | ⟨_, _, h⟩ := nextDay_cases y m d <;> rw [h]
  · exact ⟨Nat.le_add_left 1 d, hd⟩
  · exact ⟨le_rfl, (daysInMonth_pos_iff y (m + 1)).2 (by omega)⟩
  · exact ⟨le_rfl, (daysInMonth_pos_iff (y + 1) 1).2 (by decide)⟩

theorem year_le_nextDay (date : Nat × Nat × Nat) : date.1 ≤ (nextDay date).1 := by
  obtain ⟨y, m, d⟩ := date
  obtain ⟨_, h⟩ | ⟨_, _, h⟩ | ⟨_, _, h⟩ := nextDay_cases y m d <;> rw [h]
  exact Nat.le_succ y

theorem validDate_civilFromMjd (mjd : Nat) :
    validDate (civilFromMjd mjd).1 (civilFromMjd mjd).2.1 (civilFromMjd mjd).2.2 = true := by
  induction mjd with
  | zero => decide
  | succ mjd ih =>
    rw [civilFromMjd_succ]
    exact validDate_nextDay ih

theorem civilFromMjd_year_mono : Monotone fun mjd => (civilFromMjd mjd).1 :=
  monotone_nat_of_le_succ fun mjd => by
    rw [civilFromMjd_succ]
    exact year_le_nextDay _

/-- The years of the 17-bit range (R30). -/
theorem civilFromMjd_year_range (mjd : BitVec 17) :
    1858 ≤ (civilFromMjd mjd.toNat).1 ∧ (civilFromMjd mjd.toNat).1 ≤ 2217 := by
  have hfirst : (civilFromMjd 0).1 = 1858 := by decide
  have hlast : (civilFromMjd 131071).1 = 2217 := by decide
  have hlow := civilFromMjd_year_mono (Nat.zero_le mjd.toNat)
  have hhigh := civilFromMjd_year_mono (show mjd.toNat ≤ 131071 by omega)
  simp only [hfirst, hlast] at hlow hhigh
  exact ⟨hlow, hhigh⟩

end Sys2Proof.Claims

/-!
PROOFS. The two invariants of every step (10_state R30, R43; 40_group_decoder R144; 41_field_decoders R205): each answer
of an instruction keeps them, and the reset state has them.
-/

namespace Sys2Proof.Claims

open Sys2Proof.Machine

/-! ### Well-formed buffers -/

/-- A buffer as R43 says of the one named. -/
def BufOk (id : BufId) (b : TextBuffer) : Prop := b.wf id.len = true ∧ id.efflenOk b.efflen = true

theorem bufOk_blank (id : BufId) : BufOk id (TextBuffer.blank id.len) := by
  refine ⟨blank_wf _, ?_⟩
  cases id <;> rfl

theorem BufOk.writeSegment {id : BufId} {b : TextBuffer} (h : BufOk id b) (prog : Bool) (t : Level) {o : Nat}
    (ho : o + 1 < id.len) (c0 c1 : Byte) (i : Level) : BufOk id (b.writeSegment prog t o c0 c1 i) := by
  obtain ⟨hwf, hefflen⟩ := h
  exact ⟨textBuffer_writeSegment_wf hwf ho, by rwa [writeSegment_efflen]⟩

/-- A well-formed state: its four buffers and its clock time. -/
theorem state_wf_iff (s : State) : s.wf = true ↔
    BufOk .ps s.ps ∧ BufOk (.rt false) s.rt0 ∧ BufOk (.rt true) s.rt1 ∧ BufOk .ptyn s.ptyn ∧
      ∀ c, s.ct = some c → c.valid = true := by
  unfold State.wf
  cases hct : s.ct with
  | none =>
    simp only [State.bufWf, BufOk, Bool.and_eq_true, and_assoc, reduceCtorEq, false_implies, implies_true]
    rfl
  | some c =>
    simp only [State.bufWf, BufOk, Bool.and_eq_true, and_assoc, Option.some.injEq, forall_eq']
    rfl

theorem bufOk_psAfter {s : State} (h : BufOk .ps s.ps) (lv : Levels) (addr : BitVec 2) (c0 c1 : Byte) :
    BufOk .ps (psAfter lv addr c0 c1 s) := by
  have ho : 2 * addr.toNat + 1 < BufId.ps.len := by
    change 2 * addr.toNat + 1 < 8
    omega
  unfold psAfter
  split
  · exact h
  · exact h.writeSegment _ _ ho _ _ _

theorem bufOk_ptynAfter {s : State} (h : BufOk .ptyn s.ptyn) (lv : Levels) (f : Group10A) :
    BufOk .ptyn (ptynAfter lv f s) := by
  have ho : 4 * f.addr.toNat + 3 < BufId.ptyn.len := by
    change 4 * f.addr.toNat + 3 < 8
    omega
  unfold ptynAfter
  split
  · exact h
  · exact (h.writeSegment _ _ (by omega) _ _ _).writeSegment _ _ ho _ _ _

theorem bufOk_toggled {s : State} (hwf : s.wf = true) (f : Bool) {n : Nat} (hn : n = 32 ∨ n = 64) :
    BufOk (.rt f) (toggled f n s) := by
  refine ⟨?_, ?_⟩
  · exact wf_toggled (wf_buf hwf) f n
  · obtain rfl | rfl := hn <;> rfl

theorem bufOk_rtAfter2A {s : State} (hwf : s.wf = true) (lv : Levels) (f : Group2A) :
    BufOk (.rt f.f) (rtAfter2A lv f s) := by
  have ho : 4 * f.addr.toNat + 3 < (BufId.rt f.f).len := by
    change 4 * f.addr.toNat + 3 < 64
    omega
  exact ((bufOk_toggled hwf f.f (.inr rfl)).writeSegment _ _ (by omega) _ _ _).writeSegment _ _ ho _ _ _

theorem bufOk_rtAfter2B {s : State} (hwf : s.wf = true) (lv : Levels) (f : Group2B) :
    BufOk (.rt f.f) (rtAfter2B lv f s) := by
  have ho : 2 * f.addr.toNat + 1 < (BufId.rt f.f).len := by
    change 2 * f.addr.toNat + 1 < 64
    omega
  exact (bufOk_toggled hwf f.f (.inl rfl)).writeSegment _ _ ho _ _ _

/-! ### The clock time -/

/-- The snapshot of a valid group 4A is in range and a date (R30, R294). -/
theorem valid_snapshot {f : Group4A} (hvalid : clockFieldsValid f = true) : (snapshot f).valid = true := by
  have hdate := validDate_civilFromMjd f.mjd.toNat
  obtain ⟨hlow, hhigh⟩ := civilFromMjd_year_range f.mjd
  have hoffset : -31 ≤ offsetHh f.osign f.omag ∧ offsetHh f.osign f.omag ≤ 31 := by
    have hlt : f.omag.toNat < 32 := f.omag.isLt
    unfold offsetHh
    split <;> omega
  simp only [clockFieldsValid, Bool.and_eq_true, decide_eq_true_eq] at hvalid
  simp [ClockTime.valid, snapshot, hdate, hlow, hhigh, hvalid, hoffset]

/-! ### Every step keeps the state well formed -/

theorem wf_rtWritten {s : State} (hwf : s.wf = true) {f : Bool} {b : TextBuffer} (hb : BufOk (.rt f) b) :
    (rtWritten f b s).wf = true := by
  obtain ⟨hps, hrt0, hrt1, hptyn, hct⟩ := (state_wf_iff s).1 hwf
  rw [state_wf_iff]
  cases f
  · exact ⟨hps, hb, hrt1, hptyn, hct⟩
  · exact ⟨hps, hrt0, hb, hptyn, hct⟩

theorem wf_dispatchGroup {s : State} (hwf : s.wf = true) (g : Group) (lv : Levels) :
    (dispatchGroup g lv s).wf = true := by
  obtain ⟨hps, hrt0, hrt1, hptyn, hct⟩ := (state_wf_iff s).1 hwf
  unfold dispatchGroup
  split
  · rw [group0A_eq, state_wf_iff]
    exact ⟨bufOk_psAfter hps _ _ _ _, hrt0, hrt1, hptyn, hct⟩
  · rw [group0B_eq, state_wf_iff]
    exact ⟨bufOk_psAfter hps _ _ _ _, hrt0, hrt1, hptyn, hct⟩
  · unfold group1A
    split <;> exact hwf
  · by_cases hgate : s.thr.rtInfo < lv.b
    · rw [group2A_of_lt hgate]
      exact hwf
    · rw [group2A_of_le (BitVec.not_lt.1 hgate)]
      exact wf_rtWritten hwf (bufOk_rtAfter2A hwf lv _)
  · by_cases hgate : s.thr.rtInfo < lv.b
    · rw [group2B_of_lt hgate]
      exact hwf
    · rw [group2B_of_le (BitVec.not_lt.1 hgate)]
      exact wf_rtWritten hwf (bufOk_rtAfter2B hwf lv _)
  · obtain ⟨hvalid, h⟩ | ⟨_, h⟩ := group4A_cases (fields4A g) s <;> rw [h]
    · rw [state_wf_iff]
      refine ⟨hps, hrt0, hrt1, hptyn, fun c hc => ?_⟩
      obtain rfl : snapshot (fields4A g) = c := Option.some.inj hc
      exact valid_snapshot hvalid
    · exact hwf
  · rw [group10A_eq, state_wf_iff]
    exact ⟨hps, hrt0, hrt1, bufOk_ptynAfter hptyn _ _, hct⟩
  · exact hwf

/-- The blank state, whatever the registers that are no text: after CREATE and CLEAR. -/
theorem wf_of_blank {s : State} (hps : s.ps = TextBuffer.blank 8) (hrt0 : s.rt0 = TextBuffer.blank 64)
    (hrt1 : s.rt1 = TextBuffer.blank 64) (hptyn : s.ptyn = TextBuffer.blank 8) (hct : s.ct = none) :
    s.wf = true := by
  rw [state_wf_iff, hps, hrt0, hrt1, hptyn, hct]
  exact ⟨bufOk_blank .ps, bufOk_blank (.rt false), bufOk_blank (.rt true), bufOk_blank .ptyn, fun c hc => nomatch hc⟩

/-- Every answer keeps the state well formed. -/
theorem wf_of_answer {i : Instr} {s t : State} (h : Answer s i t) (hwf : s.wf = true) : t.wf = true := by
  cases h with
  | create => exact wf_of_blank rfl rfl rfl rfl rfl
  | clear => exact wf_of_blank rfl rfl rfl rfl rfl
  | decode g lv _ => exact wf_dispatchGroup (s := commonPart (headOf g) s.begin) hwf g lv
  | _ => exact hwf

/-- Settles O16: an idle step keeps the state, another takes a frame off the stream and answers. -/
theorem everyStepKeepsTheStateWellFormed : Obligations.EveryStepKeepsTheStateWellFormed := by
  intro s t hwf hstep
  obtain ⟨_, rfl⟩ | ⟨frame, rest, i, _, _, hnext⟩ := step_next hstep
  · exact hwf
  · exact wf_of_answer (exec_answer hnext) hwf

/-! ### Every step keeps together what is unknown together -/

/-- What the field decoders keep: TA and MS, COUNTRY while ECC is unknown, the RT buffers while RT_ACTIVE is. -/
structure FieldsTogether (s : State) : Prop where
  flags : s.ta.isSome = s.ms.isSome
  country : s.ecc.isSome = true ∨ s.country = none
  rt : s.rtActive.isSome = true ∨ (s.rt0 = TextBuffer.blank 64 ∧ s.rt1 = TextBuffer.blank 64)

theorem knownTogether_iff (s : State) : s.knownTogether = true ↔
    FieldsTogether s ∧ s.pi.isSome = s.tp.isSome ∧ s.tp.isSome = s.pty.isSome ∧
      (s.pi.isSome = true ∨ s.ecc = none) ∧ (s.pi.isSome = true ∨ s.ta = none) := by
  simp only [State.knownTogether, Bool.and_eq_true, Bool.or_eq_true, beq_iff_eq, Option.isNone_iff_eq_none]
  constructor
  · rintro ⟨⟨⟨⟨⟨⟨htp, hpty⟩, hflags⟩, hcountry⟩, hecc⟩, hta⟩, hrt⟩
    exact ⟨⟨hflags, hcountry, hrt⟩, htp, hpty, hecc, hta⟩
  · rintro ⟨⟨hflags, hcountry, hrt⟩, htp, hpty, hecc, hta⟩
    exact ⟨⟨⟨⟨⟨⟨htp, hpty⟩, hflags⟩, hcountry⟩, hecc⟩, hta⟩, hrt⟩

theorem fieldsTogether_of_rtIntake {s t : State} (hs : FieldsTogether s) (h : RtIntake s t) : FieldsTogether t := by
  obtain rfl | ⟨f, b, rfl⟩ := h
  · exact hs
  · cases f <;> exact ⟨hs.flags, hs.country, .inl rfl⟩

theorem fieldsTogether_dispatchGroup {s : State} (hs : FieldsTogether s) (g : Group) (lv : Levels) :
    FieldsTogether (dispatchGroup g lv s) := by
  unfold dispatchGroup
  split
  · rw [group0A_eq]
    exact ⟨rfl, hs.country, hs.rt⟩
  · rw [group0B_eq]
    exact ⟨rfl, hs.country, hs.rt⟩
  · unfold group1A
    split
    · exact ⟨hs.flags, .inl rfl, hs.rt⟩
    · exact hs
  · exact fieldsTogether_of_rtIntake hs (rtIntake_group2A lv _ s)
  · exact fieldsTogether_of_rtIntake hs (rtIntake_group2B lv _ s)
  · unfold group4A
    split
    · exact ⟨hs.flags, hs.country, hs.rt⟩
    · exact hs
  · rw [group10A_eq]
    exact ⟨hs.flags, hs.country, hs.rt⟩
  · exact hs

/-- A decode leaves PI, TP and PTY known. -/
theorem knownTogether_decodeRawGroup {s : State} (hs : FieldsTogether s) (g : Group) (lv : Levels) :
    (decodeRawGroup g lv s).knownTogether = true := by
  have hcommon : FieldsTogether (commonPart (headOf g) s.begin) := ⟨hs.flags, hs.country, hs.rt⟩
  obtain ⟨_, hpi, htp, hpty⟩ := holdsCommon_decodeRawGroup g lv s
  rw [knownTogether_iff, hpi, htp, hpty]
  exact ⟨fieldsTogether_dispatchGroup hcommon g lv, rfl, rfl, .inl rfl, .inl rfl⟩

/-- Every answer keeps together what is unknown together. -/
theorem knownTogether_of_answer {i : Instr} {s t : State} (h : Answer s i t) (hs : s.knownTogether = true) :
    t.knownTogether = true := by
  cases h with
  | create => rfl
  | clear => rfl
  | decode g lv _ =>
    obtain ⟨hfields, _⟩ := (knownTogether_iff s).1 hs
    exact knownTogether_decodeRawGroup hfields g lv
  | _ => exact hs

/-- Settles O17: an idle step keeps the state, another takes a frame off the stream and answers. -/
theorem everyStepKeepsUnknownsTogether : Obligations.EveryStepKeepsUnknownsTogether := by
  intro s t hs hstep
  obtain ⟨_, rfl⟩ | ⟨frame, rest, i, _, _, hnext⟩ := step_next hstep
  · exact hs
  · exact knownTogether_of_answer (exec_answer hnext) hs

/-- Settles O18: the reset state is blank. -/
theorem resetStateHasTheInvariants : Obligations.ResetStateHasTheInvariants :=
  ⟨wf_of_blank rfl rfl rfl rfl rfl, rfl⟩

end Sys2Proof.Claims

/-!
PROOFS. Text received without error (42_text_assembler): a character at count 0 is never changed at level 0
(70_reset_and_hazards R417), and the two segments of a PTYN give the name in either order (41_field_decoders R215).
-/

namespace Sys2Proof.Claims

open Sys2Proof.Machine

/-! ### A character at count 0 under level 0 -/

/-- At level 0 a position of count 0 is a tie, or is not offered to. -/
theorem sameAt_writeSegment_of_zero {len o p : Nat} {b : TextBuffer} (hwf : b.wf len = true) (ho : o < len)
    (hzero : b.errAt p = 0#2) (prog : Bool) (t : Level) (c0 c1 : Byte) :
    SameAt p b (b.writeSegment prog t o c0 c1 0#2) := by
  by_cases h0 : p = o
  · subst h0
    exact (positionWritten_writeSegment_first prog t c0 c1 _ hwf).sameAt_of_tie hzero
  by_cases h1 : p = o + 1
  · subst h1
    exact (positionWritten_writeSegment_second prog t c0 c1 _ hwf ho).sameAt_of_tie hzero
  exact sameAt_writeSegment_of_ne prog t c0 c1 _ h0 h1

theorem sameAt_psAfter_zero {s : State} (hwf : s.ps.wf 8 = true) {p : Nat} (hzero : s.ps.errAt p = 0#2)
    (addr : BitVec 2) (c0 c1 : Byte) : SameAt p s.ps (psAfter Levels.zero addr c0 c1 s) := by
  unfold psAfter
  split
  · exact .refl p _
  · exact sameAt_writeSegment_of_zero hwf (by omega) hzero _ _ _ _

theorem sameAt_ptynAfter_zero {s : State} (hwf : s.ptyn.wf 8 = true) {p : Nat} (hzero : s.ptyn.errAt p = 0#2)
    (f : Group10A) : SameAt p s.ptyn (ptynAfter Levels.zero f s) := by
  have haddr : 4 * f.addr.toNat + 3 < 8 := by omega
  unfold ptynAfter
  split
  · exact .refl p _
  · have hfirst := sameAt_writeSegment_of_zero hwf (o := 4 * f.addr.toNat) (by omega) hzero s.prog.ps s.thr.psData
      f.c0 f.c1
    exact hfirst.trans (sameAt_writeSegment_of_zero (textBuffer_writeSegment_wf hwf (by omega)) (by omega)
      (hfirst.2.trans hzero) _ _ _ _)

/-- Only groups 0A and 0B write PS. -/
theorem sameAt_ps_dispatchGroup_zero {s : State} (hwf : s.ps.wf 8 = true) {p : Nat} (hzero : s.ps.errAt p = 0#2)
    (g : Group) : SameAt p s.ps (dispatchGroup g Levels.zero s).ps := by
  by_cases h0A : (opcode g).toNat = 0
  · simp only [dispatchGroup, h0A]
    rw [group0A_eq]
    exact sameAt_psAfter_zero hwf hzero _ _ _
  by_cases h0B : (opcode g).toNat = 1
  · simp only [dispatchGroup, h0B]
    rw [group0B_eq]
    exact sameAt_psAfter_zero hwf hzero _ _ _
  obtain ⟨_, _, hps⟩ := (writesOwn_dispatchGroup g Levels.zero s).flags h0A h0B
  rw [hps]
  exact .refl p _

/-- Only group 10A writes PTYN. -/
theorem sameAt_ptyn_dispatchGroup_zero {s : State} (hwf : s.ptyn.wf 8 = true) {p : Nat}
    (hzero : s.ptyn.errAt p = 0#2) (g : Group) : SameAt p s.ptyn (dispatchGroup g Levels.zero s).ptyn := by
  by_cases h10A : (opcode g).toNat = 20
  · simp only [dispatchGroup, h10A]
    rw [group10A_eq]
    exact sameAt_ptynAfter_zero hwf hzero _
  rw [(writesOwn_dispatchGroup g Levels.zero s).ptyn h10A]
  exact .refl p _

/-- Settles O42: a string that is a group is decoded at level 0, another changes nothing. -/
theorem hexDecodingFreezesNames : Obligations.HexDecodingFreezesNames := by
  intro chars s id p hlive hwf hid hzero
  cases hparse : parseHex chars with
  | none => exact ⟨_, exec_decodeHex_of_parseHex_none hlive hparse, by rw [State.reject, finish_buf]; exact .refl p _⟩
  | some g =>
    refine ⟨decodeRawGroup g Levels.zero s, ?_, ?_⟩
    · rw [exec_decodeHex_of_parseHex hparse, exec_decodeRaw_of_live hlive]
    · have hbuf := wf_buf hwf
      obtain rfl | rfl := hid
      · exact sameAt_ps_dispatchGroup_zero (s := commonPart (headOf g) s.begin) (hbuf .ps) hzero g
      · exact sameAt_ptyn_dispatchGroup_zero (s := commonPart (headOf g) s.begin) (hbuf .ptyn) hzero g

/-! ### A name received without error -/

/-- The position holds the character at count 0. -/
def Received (p : Nat) (c : Byte) (b : TextBuffer) : Prop := b.chrAt p = c ∧ b.errAt p = 0#2

theorem Received.of_sameAt {p : Nat} {c : Byte} {b b' : TextBuffer} (h : Received p c b) (hsame : SameAt p b b') :
    Received p c b' := ⟨hsame.1.trans h.1, hsame.2.trans h.2⟩

/-- At level 0 a position above count 0 takes the character. -/
theorem PositionWritten.received {t : Level} {p : Nat} {c : Byte} {b b' : TextBuffer}
    (h : PositionWritten t p c 0#2 b b') (hblank : b.errAt p = 3#2) : Received p c b' :=
  h.1 (.inl (by rw [hblank]; decide))

/-- A segment at level 0 on two positions never received: both are received and the counter rises by 2 (R238). -/
theorem segment_received {len o : Nat} {b : TextBuffer} (hwf : b.wf len = true) (ho : o + 1 < len)
    (h0 : b.errAt o = 3#2) (h1 : b.errAt (o + 1) = 3#2) (prog : Bool) (t : Level) (c0 c1 : Byte) :
    Received o c0 (b.writeSegment prog t o c0 c1 0#2) ∧ Received (o + 1) c1 (b.writeSegment prog t o c0 c1 0#2) ∧
      (b.writeSegment prog t o c0 c1 0#2).conf = min (b.conf + 2) 64 := by
  obtain ⟨hfirst, hsecond, _, _, _, hconf, _⟩ :=
    segmentWritten_writeSegment hwf (Nat.lt_of_succ_lt ho) prog t c0 c1 0#2
  have hr0 := hfirst.received h0
  have hr1 := hsecond.received h1
  refine ⟨hr0, hr1, hconf ?_ (BitVec.not_lt.1 BitVec.not_lt_zero)⟩
  rw [Regressed, hr0.2, hr1.2]
  exact fun hlt => hlt.elim BitVec.not_lt_zero BitVec.not_lt_zero

/-- PTYN after the two segments of a group 10A at level 0. -/
def nameSegments (prog : Bool) (t : Level) (f : Group10A) (b : TextBuffer) : TextBuffer :=
  (b.writeSegment prog t (4 * f.addr.toNat) f.c0 f.c1 0#2).writeSegment prog t (4 * f.addr.toNat + 2) f.c2 f.c3 0#2

/-- No level is above the gate when it is 0 (R231). -/
theorem ptynAfter_zero (f : Group10A) (s : State) :
    ptynAfter Levels.zero f s = nameSegments s.prog.ps s.thr.psData f s.ptyn := if_neg BitVec.not_lt_zero

/-- The four characters of the group are received. -/
structure NameHalf (f : Group10A) (b : TextBuffer) : Prop where
  c0 : Received (4 * f.addr.toNat) f.c0 b
  c1 : Received (4 * f.addr.toNat + 1) f.c1 b
  c2 : Received (4 * f.addr.toNat + 2) f.c2 b
  c3 : Received (4 * f.addr.toNat + 3) f.c3 b

section Halves

variable {b : TextBuffer} (prog : Bool) (t : Level) (f : Group10A)

theorem nameSegments_wf (hwf : b.wf 8 = true) : (nameSegments prog t f b).wf 8 = true :=
  textBuffer_writeSegment_wf (textBuffer_writeSegment_wf hwf (by omega)) (by omega)

theorem nameSegments_efflen : (nameSegments prog t f b).efflen = b.efflen :=
  (writeSegment_efflen ..).trans (writeSegment_efflen ..)

/-- A group touches its own four positions only. -/
theorem sameAt_nameSegments {p : Nat} (hp : p / 4 ≠ f.addr.toNat) : SameAt p b (nameSegments prog t f b) :=
  (sameAt_writeSegment_of_ne prog t _ _ _ (by omega) (by omega)).trans
    (sameAt_writeSegment_of_ne prog t _ _ _ (by omega) (by omega))

/-- A group on four positions never received: all are received, and the counter rises by 4. -/
theorem nameSegments_received (hwf : b.wf 8 = true) (hblank : ∀ p, p / 4 = f.addr.toNat → b.errAt p = 3#2)
    (hconf : b.conf ≤ 60) :
    NameHalf f (nameSegments prog t f b) ∧ (nameSegments prog t f b).conf = b.conf + 4 := by
  have haddr : 4 * f.addr.toNat + 3 < 8 := by omega
  obtain ⟨h0, h1, hconf1⟩ := segment_received hwf (o := 4 * f.addr.toNat) (by omega) (hblank _ (by omega))
    (hblank _ (by omega)) prog t f.c0 f.c1
  have hmid (p : Nat) (hlow : 4 * f.addr.toNat + 2 ≤ p) :
      SameAt p b (b.writeSegment prog t (4 * f.addr.toNat) f.c0 f.c1 0#2) :=
    sameAt_writeSegment_of_ne prog t _ _ _ (by omega) (by omega)
  obtain ⟨h2, h3, hconf2⟩ := segment_received (textBuffer_writeSegment_wf hwf (by omega)) haddr
    ((hmid _ le_rfl).2.trans (hblank _ (by omega))) ((hmid _ (Nat.le_succ _)).2.trans (hblank _ (by omega))) prog t
    f.c2 f.c3
  have hkeep (p : Nat) (hhigh : p < 4 * f.addr.toNat + 2) :=
    sameAt_writeSegment_of_ne prog t f.c2 f.c3 0#2 (b := b.writeSegment prog t (4 * f.addr.toNat) f.c0 f.c1 0#2)
      (o := 4 * f.addr.toNat + 2) (p := p) (by omega) (by omega)
  refine ⟨⟨h0.of_sameAt (hkeep _ (by omega)), h1.of_sameAt (hkeep _ (by omega)), h2, h3⟩, ?_⟩
  rw [nameSegments, hconf2, hconf1]
  omega

/-- A segment that completes the buffer publishes it (R241). -/
theorem nameSegments_published (hpass : FullPass t (nameSegments prog t f b)) (p : Nat) :
    (nameSegments prog t f b).pubChrAt p = (nameSegments prog t f b).chrAt p ∧
      (nameSegments prog t f b).pubErrAt p = (nameSegments prog t f b).errAt p := by
  obtain ⟨_, hchr, herr⟩ | ⟨hno, _⟩ := writeSegment_published_cases prog t (4 * f.addr.toNat + 2) f.c2 f.c3 0#2
    (b.writeSegment prog t (4 * f.addr.toNat) f.c0 f.c1 0#2)
  · exact ⟨congrArg (sparseRead Config.filler · p) hchr, congrArg (sparseRead Config.errMax · p) herr⟩
  · exact absurd (.inr hpass) hno

/-- Two groups of different addresses on a blank buffer: both halves are received and published. -/
theorem nameSegments_two (x y : Group10A) (hxy : x.addr.toNat ≠ y.addr.toNat) :
    NameHalf x (nameSegments prog t y (nameSegments prog t x (TextBuffer.blank 8))) ∧
      NameHalf y (nameSegments prog t y (nameSegments prog t x (TextBuffer.blank 8))) ∧
      (nameSegments prog t y (nameSegments prog t x (TextBuffer.blank 8))).conf = 8 := by
  have hblank := blank_wf 8
  obtain ⟨hx, hconfx⟩ := nameSegments_received prog t x hblank (fun _ _ => rfl) (by decide)
  have hother {p : Nat} (hp : p / 4 ≠ x.addr.toNat) := sameAt_nameSegments (b := TextBuffer.blank 8) prog t x hp
  obtain ⟨hy, hconfy⟩ := nameSegments_received prog t y (nameSegments_wf prog t x hblank)
    (fun p hp => (hother (by omega)).2) (by rw [hconfx]; decide)
  have hstill {p : Nat} (hp : p / 4 = x.addr.toNat) :=
    sameAt_nameSegments (b := nameSegments prog t x (TextBuffer.blank 8)) prog t y (p := p) (by omega)
  refine ⟨⟨hx.c0.of_sameAt (hstill (by omega)), hx.c1.of_sameAt (hstill (by omega)),
    hx.c2.of_sameAt (hstill (by omega)), hx.c3.of_sameAt (hstill (by omega))⟩, hy, ?_⟩
  rw [hconfy, hconfx]
  rfl

end Halves

/-- Both halves received and the counter at 8: the whole name is within any threshold (R241). -/
theorem fullPass_of_halves {a b : Group10A} (ha : a.addr = 0#1) (hb : b.addr = 1#1) {n : TextBuffer}
    (hna : NameHalf a n) (hnb : NameHalf b n) (hefflen : n.efflen = 8) (hconf : n.conf = 8) (t : Level) :
    FullPass t n ∧ (List.range 8).map n.chrAt = [a.c0, a.c1, a.c2, a.c3, b.c0, b.c1, b.c2, b.c3] ∧
      (List.range 8).map n.errAt = List.replicate 8 0#2 := by
  obtain ⟨⟨hc0, he0⟩, ⟨hc1, he1⟩, ⟨hc2, he2⟩, hc3, he3⟩ := hna
  obtain ⟨⟨hc4, he4⟩, ⟨hc5, he5⟩, ⟨hc6, he6⟩, hc7, he7⟩ := hnb
  simp only [ha, hb, BitVec.toNat_ofNat, Nat.reducePow, Nat.reduceMod, Nat.reduceMul, Nat.reduceAdd, Nat.zero_add,
    Nat.mul_zero] at *
  refine ⟨⟨by rw [hefflen, hconf], fun p hp => ?_⟩, ?_, ?_⟩
  · rw [hefflen] at hp
    have hzero : n.errAt p = 0#2 := by interval_cases p <;> assumption
    rw [hzero]
    exact BitVec.not_lt.1 BitVec.not_lt_zero
  · simp [List.range_succ, hc0, hc1, hc2, hc3, hc4, hc5, hc6, hc7]
  · simp [List.range_succ, he0, he1, he2, he3, he4, he5, he6, he7, List.replicate]

/-- Settles O43: both orders leave both halves received, and the second group publishes them. -/
theorem ptynSegmentsInEitherOrder : Obligations.PtynSegmentsInEitherOrder := by
  intro h a b s hlive hblank ha hb x y hxy
  refine ⟨_, _, exec_g10A_of_live hlive Levels.zero h x, exec_g10A_of_live ?_ Levels.zero h y, ?_⟩
  · exact hlive
  simp only [ptynAfter_zero, hblank]
  generalize hn :
    nameSegments s.prog.ps s.thr.psData y (nameSegments s.prog.ps s.thr.psData x (TextBuffer.blank 8)) = n
  have hefflen : n.efflen = 8 := by
    rw [← hn, nameSegments_efflen, nameSegments_efflen]
    rfl
  have hhalves : NameHalf a n ∧ NameHalf b n ∧ n.conf = 8 := by
    rw [← hn]
    obtain ⟨rfl, rfl⟩ | ⟨rfl, rfl⟩ := hxy
    · exact nameSegments_two _ _ x y (by simp [ha, hb])
    · obtain ⟨hx, hy, hconf⟩ := nameSegments_two s.prog.ps s.thr.psData x y (by simp [ha, hb])
      exact ⟨hy, hx, hconf⟩
  obtain ⟨hna, hnb, hconf⟩ := hhalves
  obtain ⟨hpass, hchr, herr⟩ := fullPass_of_halves ha hb hna hnb hefflen hconf s.thr.psData
  have hpub (p : Nat) : n.pubChrAt p = n.chrAt p ∧ n.pubErrAt p = n.errAt p := by
    rw [← hn] at hpass ⊢
    exact nameSegments_published _ _ y hpass p
  exact ⟨(List.map_congr_left fun p _ => (hpub p).1).trans hchr, (List.map_congr_left fun p _ => (hpub p).2).trans herr⟩

end Sys2Proof.Claims
